-- ==== Sys2Proof/Word.lean ====
section
/-! DEFINITION. The two word widths of the machine: bytes and 16-bit words
(spec/00_scope.md R7, R8). Everything that computes with them stands in files a repair may mend. -/

namespace Sys2Proof

/-- An 8-bit value: a register, a byte of memory, an opcode byte. -/
abbrev Byte := BitVec 8

/-- A 16-bit value: SP, PC, a register pair, an address. -/
abbrev Word := BitVec 16

end Sys2Proof
end

