-- ==== Sys2Proof/WellFormed.lean ====
section
/-! DEFINITION. The checks the spec puts on what is handed to the machine: an instruction that is one by itself, and
a launch's two images. -/

namespace Sys2Proof

/-- An instruction by itself. Every immediate has its width by its type; the one row that is no instruction is the
bare prefix: "0xCB is not an instruction by itself" (46_system.md R270). -/
def Instr.wellFormed (i : Instr) : Bool := decide (i ≠ .prefix_CB)

/-- A boot image of exactly 256 bytes (70_reset_and_hazards.md R351). -/
def bootImageOk (boot : List Byte) : Bool := boot.length == 256

/-- A cartridge image of 1 to 32,768 bytes (70_reset_and_hazards.md R351). -/
def romImageOk (rom : List Byte) : Bool := 1 ≤ rom.length && rom.length ≤ 32768

end Sys2Proof
end

