-- ==== Sys2Proof/Config.lean ====
section
/-! DEFINITION. The named parameters of the machine (spec/00_scope.md R7), each fixed at launch, the agents, and the free
values of the spec: constants with no body, so that a statement holds whatever they are. -/

namespace Sys2Proof

/-- `HC_POLICY` (42_alu8.md R161): how the five half-carry functions are given. -/
inductive HcPolicy where
  /-- The nibble comparison R161 writes out (the default). -/
  | nibble
  /-- The spec's `Opaque`: an uninterpreted total function of the operands (log entry 14). -/
  | uninterpreted
deriving DecidableEq, Repr

/-- `SP_OFFSET_FLAGS` (43_alu16.md R201): the boundaries of H and C of `ADD SP,e8` and `LD HL,SP+e8`. -/
inductive SpOffsetFlags where
  | lowByte
  | wide12_16
deriving DecidableEq, Repr

/-- `ACC_ROT_Z` (44_rotate_shift_bit.md R215): Z of RLCA, RRCA, RLA and RRA. -/
inductive AccRotZ where
  | fromResult
  | zero
deriving DecidableEq, Repr

/-- `PPU_OVERSHOOT` (48_ppu.md R283): what a transition does with the ticks beyond the threshold. -/
inductive Overshoot where
  | carry
  | reset
deriving DecidableEq, Repr

/-- `VBLANK_ENTRY_LINE` (48_ppu.md R281, 90_conflicts.md C2): the table's 143 or the prose's 144, and no other value:
DEDUCED, unsafe (log entry 13). -/
inductive VblankEntry where
  | line143
  | line144
deriving DecidableEq, Repr

/-- The line number of a `VBLANK_ENTRY_LINE` setting. -/
def VblankEntry.toNat : VblankEntry → Nat
  | .line143 => 143
  | .line144 => 144

/-- `ROM_WRITE` (20_memory.md R54): a write to 0x0000-0x7FFF. -/
inductive RomWrite where
  | ignore
  | fault
deriving DecidableEq, Repr

/-- `PIXEL_POLARITY` (48_ppu.md R290): which sample is black. -/
inductive Polarity where
  | setIsBlack
  | setIsWhite
deriving DecidableEq, Repr

/-- The two agents (00_scope.md R13). -/
inductive Agent where
  | producer
  | consumer
deriving DecidableEq, Repr, Inhabited

/-- The named parameters of 00_scope.md R7. `ioStubSet` lists inclusive address ranges. -/
structure Params where
  hcPolicy         : HcPolicy
  spOffsetFlags    : SpOffsetFlags
  accRotZ          : AccRotZ
  ppuOvershoot     : Overshoot
  vblankEntry      : VblankEntry
  haltPcAdvance    : Bool
  unimplExtra      : List Byte
  romWrite         : RomWrite
  ioStubSet        : List (Nat × Nat)
  pixelPolarity    : Polarity
  bootLockedAtLaunch : Bool
  consumerAttached : Bool
deriving DecidableEq, Repr

/-- The default `IO_STUB_SET` of 20_memory.md R68. -/
def defaultIoStubSet : List (Nat × Nat) :=
  [(0xFF10, 0xFF26), (0xFF30, 0xFF3F), (0xFF40, 0xFF44), (0xFF47, 0xFF49), (0xFF50, 0xFF50)]

/-- Every parameter at the default R7 gives it. DESIGN CHOICE, unsafe (log entry 3): R7 gives
`CONSUMER_ATTACHED` no default; false here, the setting of the spec's own programs (95_test_vectors.md §3). -/
def defaultParams : Params where
  hcPolicy := .nibble
  spOffsetFlags := .lowByte
  accRotZ := .fromResult
  ppuOvershoot := .carry
  vblankEntry := .line143
  haltPcAdvance := false
  unimplExtra := []
  romWrite := .ignore
  ioStubSet := defaultIoStubSet
  pixelPolarity := .setIsBlack
  bootLockedAtLaunch := false
  consumerAttached := false

/-- The n-th draw: the byte a read of a stub register returns (20_memory.md R64 to R66). DESIGN CHOICE, safe
(log entry 4): a free value, one per read. -/
opaque Config.stubDraw : Nat → Byte

/-- Whose turn the n-th one is past the turns a state lists (49_frame_handoff.md R320): the agents interleave
arbitrarily. DESIGN CHOICE, safe (log entry 5): a free value, one per turn. -/
opaque Config.laterTurn : Nat → Agent

/-- `hcAdd8` under `HC_POLICY` = `Opaque` (42_alu8.md R161): uninterpreted. Safe. -/
opaque Config.hcAdd8 : Byte → Byte → Bool

/-- `hcSub8` under `HC_POLICY` = `Opaque` (42_alu8.md R161): uninterpreted. Safe. -/
opaque Config.hcSub8 : Byte → Byte → Bool

/-- `hcInc8` under `HC_POLICY` = `Opaque` (42_alu8.md R161): uninterpreted. Safe. -/
opaque Config.hcInc8 : Byte → Bool

/-- `hcDec8` under `HC_POLICY` = `Opaque` (42_alu8.md R161): uninterpreted. Safe. -/
opaque Config.hcDec8 : Byte → Bool

/-- `hcAdd16` under `HC_POLICY` = `Opaque` (42_alu8.md R161): uninterpreted. Safe. -/
opaque Config.hcAdd16 : Word → Word → Bool

end Sys2Proof
end

