-- ==== Sys2Proof/Machine/Memory.lean ====
section
/-! DEFINITION. A backing store: bytes at natural-number keys, as a list in one canonical form (keys strictly rising,
no entry equal to what an unlisted key reads as). Used for BOOT, ROM, the read-write memory and the frame buffer
(spec/10_state.md R29 to R31; log entry 15). -/

namespace Sys2Proof.Machine

/-- A backing store as plain data. -/
abbrev Memory := List Host.Cell

/-- What an unlisted key reads as. DESIGN CHOICE, unsafe (log entry 1): the launch contents are the arbitrary
`INIT_MEM` (10_state.md R39), which a list may hold; where nothing is listed the byte is 0x00. -/
def Memory.unlisted : Byte := 0

/-- The byte at a key. -/
def Memory.read : Memory → Nat → Byte
  | [], _ => Memory.unlisted
  | (k, v) :: m, a => if k = a then v else Memory.read m a

/-- Store one byte, keeping the canonical form. -/
def Memory.write : Memory → Nat → Byte → Memory
  | [], a, v => if v = Memory.unlisted then [] else [(a, v)]
  | (k, x) :: m, a, v =>
    if a < k then (if v = Memory.unlisted then (k, x) :: m else (a, v) :: (k, x) :: m)
    else if a = k then (if v = Memory.unlisted then m else (a, v) :: m)
    else (k, x) :: Memory.write m a v

/-- The cells of a run of bytes from a key on, less those an unlisted key already reads as. -/
def Memory.runCells : Nat → List Byte → Memory
  | _, [] => []
  | a, v :: vs => if v = Memory.unlisted then Memory.runCells (a + 1) vs else (a, v) :: Memory.runCells (a + 1) vs

/-- Store a run of bytes at consecutive keys. -/
def Memory.writeRun (m : Memory) (base : Nat) (bytes : List Byte) : Memory :=
  m.filter (fun c => c.1 < base) ++ Memory.runCells base bytes ++ m.filter (fun c => base + bytes.length ≤ c.1)

/-- A store from cells in any order, the last one at a key winning. -/
def Memory.ofCells (cells : List Host.Cell) : Memory :=
  cells.foldl (fun m c => Memory.write m c.1 c.2) []

/-- Every listed key lies above a. -/
def Memory.above (a : Nat) : Memory → Bool
  | [] => true
  | (k, _) :: m => a < k && Memory.above a m

/-- Every listed key lies below n. -/
def Memory.below (n : Nat) : Memory → Bool
  | [] => true
  | (k, _) :: m => k < n && Memory.below n m

/-- The canonical form: keys strictly rising, no entry equal to what an unlisted key reads as. -/
def Memory.wf : Memory → Bool
  | [] => true
  | (k, v) :: m => v ≠ Memory.unlisted && Memory.above k m && Memory.wf m

end Sys2Proof.Machine
end

