-- ==== Sys2Proof/Machine/State.lean ====
section
/-! DEFINITION. Everything the spec gives the machine as state (spec/10_state.md R20 to R43), as plain data, with the
reasons a run exits or a step stops, and the state right after reset. -/

namespace Sys2Proof.Machine

/-- The four flags of F, at bits 7, 6, 5 and 4 (10_state.md R21); bits 3..0 of F are always 0 (R22) and so are no
storage. -/
structure Flags where
  z : Bool
  n : Bool
  h : Bool
  c : Bool
deriving DecidableEq, Repr

/-- The PPU's four modes (48_ppu.md R281). -/
inductive PpuMode where
  | oamScan
  | pixelTransfer
  | hBlank
  | vBlank
deriving DecidableEq, Repr

/-- Where a blocked publication of the producer stands (10_state.md R32, 49_frame_handoff.md R313 to R315). -/
inductive Phase where
  | running
  | awaitAck
  | awaitSlot
deriving DecidableEq, Repr

/-- The kind of an access the decoder cannot answer (60_exceptions.md R331). -/
inductive AccessKind where
  | read
  | write
deriving DecidableEq, Repr

/-- The exit reasons (60_exceptions.md R330). -/
inductive ExitReason where
  /-- Never produced (R334). -/
  | clean
  /-- `STOP` executed: a normal end (R333). -/
  | stop
  /-- `HALT` executed: a normal end (R333). -/
  | halt
  /-- An access the decoder cannot answer (R331). -/
  | outOfBounds (addr : Word) (kind : AccessKind)
  /-- An opcode with no instruction, or one in `UNIMPL_EXTRA` (R332). -/
  | unimplemented (op : Byte)
deriving DecidableEq, Repr

/-- The run status (10_state.md R33): once exited, the producer has no further step. -/
inductive RunStatus where
  | running
  | exited (reason : ExitReason) (pcAtExit : Word)
deriving DecidableEq, Repr

/-- The machine's state. -/
structure State where
  /-- The 8-bit registers (10_state.md R20). -/
  a : Byte
  b : Byte
  c : Byte
  d : Byte
  e : Byte
  h : Byte
  l : Byte
  /-- The flags register F (R21, R22). -/
  f : Flags
  /-- The stack pointer (R25). -/
  sp : Word
  /-- The program counter: during an instruction, the address of its first byte (R26). -/
  pc : Word
  /-- The interrupt master enable, written by DI, EI and RETI, read by no rule (R27). -/
  ime : Bool
  /-- The boot overlay's lock (R28). -/
  bootLocked : Bool
  /-- BOOT, keyed 0..255 (R29). -/
  boot : Memory
  /-- ROM, keyed 0..romLen-1 (R29). -/
  rom : Memory
  /-- ROM_LEN (R29, 00_scope.md R7). -/
  romLen : Nat
  /-- VRAM, ERAM, WRAM and HRAM (R30, R31), keyed by their bus addresses 0x8000-0x9FFF, 0xA000-0xBFFF,
  0xC000-0xDFFF and 0xFF80-0xFFFE (20_memory.md R51). -/
  ram : Memory
  /-- The interrupt-flag storage byte at 0xFF0F (R30, 20_memory.md R67). -/
  ifr : Byte
  /-- The interrupt-enable storage byte at 0xFFFF (R30, 20_memory.md R70). -/
  ier : Byte
  /-- The PPU's clock: ticks accumulated in the current mode (R31). -/
  clock : Nat
  /-- The PPU's mode (R31). -/
  mode : PpuMode
  /-- The current scanline, LY (R31). -/
  line : Nat
  /-- The scroll registers (R31). -/
  scy : Byte
  scx : Byte
  /-- FB, the frame buffer, keyed 0..92159 (R31, 48_ppu.md R294). -/
  fb : Memory
  /-- The hand-off's consumed flag (R32). -/
  consumed : Bool
  /-- The capacity-1 channel: empty or one frame (R32). -/
  slot : Option Memory
  /-- The producer's phase (R32). -/
  phase : Phase
  /-- The frame the consumer holds, received and not yet acknowledged (R32). -/
  held : Option Memory
  /-- The run status (R33). -/
  status : RunStatus
  /-- The named parameters of the launch (00_scope.md R7); no step changes them. -/
  params : Params
  /-- The model's own: how many draws the decoder has handed out (log entry 4). -/
  drawCount : Nat
  /-- The model's own: the agents' next turns, first one first (log entry 5). -/
  turns : List Agent
  /-- The model's own: how many turns past the listed ones have been taken (log entry 5). -/
  turnCount : Nat
deriving DecidableEq, Repr

/-- Why a step stops with a fault. -/
inductive Fault where
  /-- The run is over: `step` raises it in an exited state in which the consumer has no step either
  (40_execution_loop.md R120), with the exit record (60_exceptions.md R330). DESIGN CHOICE, safe: nothing runs after
  it (log entry 10). -/
  | runEnded (reason : ExitReason) (pcAtExit : Word)
deriving DecidableEq, Repr

/-- Why a step is refused. -/
inductive Refusal where
  /-- An instruction with no meaning yet, raised only by a refused arm of `exec`; there is none. Safe. -/
  | notModelled (mnemonic : String)
deriving DecidableEq, Repr

/-- The machine right after reset (10_state.md R35 to R43, 70_reset_and_hazards.md R350), every parameter at its
default. DESIGN CHOICE, unsafe: INIT_MEM, BOOT and ROM all zero bytes and ROM_LEN 32,768 (log entries 1 and 2);
the draw counter and the turns are the model's own (log entries 4 and 5). -/
def State.reset : State where
  a := 0
  b := 0
  c := 0
  d := 0
  e := 0
  h := 0
  l := 0
  f := ⟨false, false, false, false⟩
  sp := 0
  pc := 0
  ime := false
  bootLocked := false
  boot := []
  rom := []
  romLen := 32768
  ram := []
  ifr := 0
  ier := 0
  clock := 0
  mode := .oamScan
  line := 0
  scy := 0
  scx := 0
  fb := []
  consumed := true
  slot := none
  phase := .running
  held := none
  status := .running
  params := defaultParams
  drawCount := 0
  turns := []
  turnCount := 0

end Sys2Proof.Machine
end

