-- ==== Sys2Proof/Machine/Ppu.lean ====
section
/-! DEFINITION. The PPU timing state machine and the scanline renderer (spec/48_ppu.md), and the beginning of a
publication (spec/49_frame_handoff.md R312). -/

namespace Sys2Proof.Machine

/-- `thr(mode)`, the ticks that end a mode (48_ppu.md R281). -/
def thr : PpuMode → Nat
  | .oamScan => 80
  | .pixelTransfer => 172
  | .hBlank => 204
  | .vBlank => 456

/-! ## Rendering (R286 to R294) -/

/-- `VRAM[off]`: VRAM lies at bus address 0x8000. -/
def vramByte (ram : Memory) (off : Nat) : Byte := ram.read (0x8000 + off)

/-- `mx = u8(px + SCX)` (R287). -/
def mapX (scx : Byte) (px : Nat) : Nat := (px + scx.toNat) % 256

/-- `my = u8(l + SCY)` (R287). -/
def mapY (scy : Byte) (l : Nat) : Nat := (l + scy.toNat) % 256

/-- The tile identifier, from the map at offset 0x1800 (R288). -/
def tileId (ram : Memory) (mx my : Nat) : Nat := (vramByte ram (0x1800 + my / 8 * 32 + mx / 8)).toNat

/-- The 1-bit sample, from the first byte of the tile's row (R289). -/
def tileSample (ram : Memory) (mx my : Nat) : Bool :=
  (vramByte ram (tileId ram mx my * 16 + my % 8 * 2)).getLsbD (7 - mx % 8)

/-- The grey level of a sample (R290). -/
def grey : Polarity → Bool → Byte
  | .setIsBlack, true => 0x00
  | .setIsBlack, false => 0xFF
  | .setIsWhite, true => 0xFF
  | .setIsWhite, false => 0x00

/-- The four bytes R, G, B, A of a pixel (R290, R294). -/
def pixelBytes (g : Byte) : List Byte := [g, g, g, 0xFF]

/-- The grey level of pixel (px, l): a function of VRAM, the scroll registers and the polarity alone (R293). -/
def pixelGrey (p : Polarity) (ram : Memory) (scx scy : Byte) (l px : Nat) : Byte :=
  grey p (tileSample ram (mapX scx px) (mapY scy l))

/-- The 640 bytes of row l (R286). -/
def rowBytes (p : Polarity) (ram : Memory) (scx scy : Byte) (l : Nat) : List Byte :=
  (List.range 160).flatMap fun px => pixelBytes (pixelGrey p ram scx scy l px)

/-- `RenderLine(l)`: row l of FB, at offset l*640 (R286, R294). -/
def renderLine (l : Nat) (s : State) : State :=
  { s with fb := s.fb.writeRun (l * 640) (rowBytes s.params.pixelPolarity s.ram s.scx s.scy l) }

/-! ## Transitions (R281, R282) -/

/-- `BeginPublish()` (49_frame_handoff.md R312). -/
def beginPublish (s : State) : State :=
  if s.params.consumerAttached then { s with phase := .awaitAck } else s

/-- The clock after a transition (R282, R283). -/
def clockAfter (o : Overshoot) (m : PpuMode) (clock : Nat) : Nat :=
  match o with
  | .carry => clock - thr m
  | .reset => 0

/-- One turn of `PpuRun`'s loop body (R282). -/
def ppuTransition (s : State) : State :=
  let s := { s with clock := clockAfter s.params.ppuOvershoot s.mode s.clock }
  match s.mode with
  | .oamScan => { s with mode := .pixelTransfer }
  | .pixelTransfer => { renderLine s.line s with mode := .hBlank }
  | .hBlank =>
    if s.line + 1 = s.params.vblankEntry.toNat
    then beginPublish { s with line := s.line + 1, mode := .vBlank }
    else { s with line := s.line + 1, mode := .oamScan }
  | .vBlank =>
    if s.line + 1 > 153 then { s with line := 0, mode := .oamScan } else { s with line := s.line + 1 }

/-- The loop condition of `PpuRun` (R282). -/
def ppuDue (s : State) : Bool := s.phase = .running && thr s.mode ≤ s.clock

/-- `PpuRun()` with a bound on the turns. -/
def ppuRunFuel : Nat → State → State
  | 0, s => s
  | n + 1, s => if ppuDue s then ppuRunFuel n (ppuTransition s) else s

/-- `PpuRun()` (R282). A turn takes at least 80 ticks off the clock, or sets it to 0, so the clock bounds the turns. -/
def ppuRun (s : State) : State := ppuRunFuel s.clock s

/-- `PpuStep(t)` (R282). -/
def ppuStep (t : Nat) (s : State) : State := ppuRun { s with clock := s.clock + t }

end Sys2Proof.Machine
end

