-- ==== Sys2Proof/Machine/Handoff.lean ====
section
/-! DEFINITION. The frame hand-off: the producer's two hand-off steps and the consumer's two steps
(spec/49_frame_handoff.md), each one atomic transition (R310). -/

namespace Sys2Proof.Machine

/-- The end of a publication: a copy of FB goes into the slot and the PPU step goes on (R313 to R315, R318). -/
def publish (s : State) : State := ppuRun { s with slot := some s.fb, phase := .running }

/-- `HandoffAck` (R313), where it is enabled. -/
def handoffAck (s : State) : State :=
  let s := { s with consumed := false }
  match s.slot with
  | none => publish s
  | some _ => { s with phase := .awaitSlot }

/-- The producer's hand-off step, or a wait while none is enabled (R313, R314). -/
def handoffStep (s : State) : State :=
  match s.phase with
  | .running => s
  | .awaitAck => if s.consumed then handoffAck s else s
  | .awaitSlot => match s.slot with
    | none => publish s
    | some _ => s

/-- `Receive` (R316): the frame in the slot goes to the consumer. -/
def receive (s : State) : State := { s with held := s.slot, slot := none }

/-- `Ack` (R317): the consumer is done with the frame it holds. -/
def acknowledge (s : State) : State := { s with held := none, consumed := true }

/-- Whether the consumer has an enabled step: `Ack` if it holds a frame, else `Receive` if the slot holds one
(R316, R317). -/
def consumerEnabled (s : State) : Bool := s.params.consumerAttached && (s.held.isSome || s.slot.isSome)

/-- The consumer's turn: its enabled step, or nothing (R316, R317, R320). -/
def consumerTurn (s : State) : State :=
  if consumerEnabled s then (if s.held.isSome then acknowledge s else receive s) else s

end Sys2Proof.Machine
end

