-- ==== Sys2Proof/Machine/Ops.lean ====
section
/-! DEFINITION. The named operations over registers and memory: the register file and its pairs
(spec/10_state.md R20 to R27), the memory decoder (spec/20_memory.md R50 to R73), the stack (spec/41_loads.md R130,
R131), and the three ends of an instruction: its report, the tick report and the exit
(spec/40_execution_loop.md R114 to R118). -/

namespace Sys2Proof.Machine

/-! ## Registers -/

/-- Read an 8-bit register. -/
def State.getR8 (s : State) : Reg8 → Byte
  | .b => s.b
  | .c => s.c
  | .d => s.d
  | .e => s.e
  | .h => s.h
  | .l => s.l
  | .a => s.a

/-- Write an 8-bit register. -/
def State.setR8 (s : State) (r : Reg8) (v : Byte) : State :=
  match r with
  | .b => { s with b := v }
  | .c => { s with c := v }
  | .d => { s with d := v }
  | .e => { s with e := v }
  | .h => { s with h := v }
  | .l => { s with l := v }
  | .a => { s with a := v }

/-- The byte F: the flags at bits 7..4, zeros below (10_state.md R21, R22). -/
def Flags.toByte (f : Flags) : Byte :=
  BitVec.ofBool f.z ++ BitVec.ofBool f.n ++ BitVec.ofBool f.h ++ BitVec.ofBool f.c ++ 0#4

/-- A write of a full byte to F keeps its top four bits (R22). -/
def Flags.ofByte (v : Byte) : Flags := ⟨v.getLsbD 7, v.getLsbD 6, v.getLsbD 5, v.getLsbD 4⟩

/-- Write the flags. -/
def State.setF (s : State) (f : Flags) : State := { s with f := f }

/-- Write SP (R25). -/
def State.setSp (s : State) (v : Word) : State := { s with sp := v }

/-- Write PC (R26). -/
def State.setPc (s : State) (v : Word) : State := { s with pc := v }

/-- Write IME (R27). -/
def State.setIme (s : State) (v : Bool) : State := { s with ime := v }

/-- The pair BC (R23). -/
def State.bc (s : State) : Word := wordOf s.b s.c

/-- The pair DE (R23). -/
def State.de (s : State) : Word := wordOf s.d s.e

/-- The pair HL (R23). -/
def State.hl (s : State) : Word := wordOf s.h s.l

/-- The pair AF (R23). -/
def State.af (s : State) : Word := wordOf s.a s.f.toByte

/-- Write the pair HL (R24). -/
def State.setHl (s : State) (w : Word) : State := { s with h := hiByte w, l := loByte w }

/-- Read a register of r16 (30_encoding.md R94, 43_alu16.md R200). -/
def State.getR16 (s : State) : Reg16 → Word
  | .bc => s.bc
  | .de => s.de
  | .hl => s.hl
  | .sp => s.sp

/-- Write a register of r16 (10_state.md R24, 43_alu16.md R200). -/
def State.setR16 (s : State) (r : Reg16) (w : Word) : State :=
  match r with
  | .bc => { s with b := hiByte w, c := loByte w }
  | .de => { s with d := hiByte w, e := loByte w }
  | .hl => { s with h := hiByte w, l := loByte w }
  | .sp => { s with sp := w }

/-- Read a register of r16stk (30_encoding.md R95). -/
def State.getStack (s : State) : StackReg → Word
  | .bc => s.bc
  | .de => s.de
  | .hl => s.hl
  | .af => s.af

/-- Write a register of r16stk; the low byte of AF goes through R22 (10_state.md R24). -/
def State.setStack (s : State) (r : StackReg) (w : Word) : State :=
  match r with
  | .bc => { s with b := hiByte w, c := loByte w }
  | .de => { s with d := hiByte w, e := loByte w }
  | .hl => { s with h := hiByte w, l := loByte w }
  | .af => { s with a := hiByte w, f := Flags.ofByte (loByte w) }

/-! ## The memory decoder: one region answers each address (20_memory.md R51) -/

/-- What answers an address. -/
inductive Target where
  /-- BOOT at an offset (R52). -/
  | boot (off : Nat)
  /-- ROM at an offset (R53). -/
  | rom (off : Nat)
  /-- VRAM, ERAM, WRAM or HRAM, by bus address; an echo address is already its work-RAM address (R55 to R58, R69). -/
  | ram (key : Nat)
  /-- The interrupt-flag storage (R67). -/
  | ifr
  /-- The interrupt-enable storage (R70). -/
  | ier
  /-- The live PPU registers (R61 to R63). -/
  | scy
  | scx
  | ly
  /-- A stub register (R64, R65). -/
  | stub
  /-- The boot-lock register (R66). -/
  | bootLock
  /-- Nothing: the sprite-table hole or an unknown I/O address (R59, R68). -/
  | unmapped
deriving DecidableEq, Repr

/-- Whether an address is in `IO_STUB_SET` (R68). -/
def inStubSet (p : Params) (a : Nat) : Bool := p.ioStubSet.any fun r => r.1 ≤ a && a ≤ r.2

/-- The I/O window 0xFF00-0xFF7F (R60 to R68). DESIGN CHOICE, safe (log entry 6): an address that `IO_STUB_SET`
adds beyond its default is a stub. -/
def routeIo (p : Params) (a : Nat) : Target :=
  if a = 0xFF0F then .ifr
  else if inStubSet p a then
    if a = 0xFF42 then .scy
    else if a = 0xFF43 then .scx
    else if a = 0xFF44 then .ly
    else if a = 0xFF50 then .bootLock
    else .stub
  else .unmapped

/-- The address map (R51). -/
def route (s : State) (addr : Word) : Target :=
  let a := addr.toNat
  if a < 0x8000 then (if a < 0x100 ∧ s.bootLocked = false then .boot a else .rom a)
  else if a < 0xE000 then .ram a
  else if a < 0xFE00 then .ram (a - 0x2000)
  else if a < 0xFF00 then .unmapped
  else if a < 0xFF80 then routeIo s.params a
  else if a < 0xFFFF then .ram a
  else .ier

/-- What a byte read finds: a byte, a draw, or no answer. -/
inductive BusByte where
  | byte (v : Byte)
  | draw
  | outOfBounds
deriving DecidableEq, Repr

/-- Read one byte through the decoder, changing nothing (R52 to R70). -/
def busRead (s : State) (addr : Word) : BusByte :=
  match route s addr with
  | .boot off => .byte (s.boot.read off)
  | .rom off => if off < s.romLen then .byte (s.rom.read off) else .outOfBounds
  | .ram key => .byte (s.ram.read key)
  | .ifr => .byte s.ifr
  | .ier => .byte s.ier
  | .scy => .byte s.scy
  | .scx => .byte s.scx
  | .ly => .byte (BitVec.ofNat 8 s.line)
  | .stub => .draw
  | .bootLock => .draw
  | .unmapped => .outOfBounds

/-- Write one byte through the decoder; none where nothing answers (R52 to R70). -/
def busWrite (s : State) (addr : Word) (v : Byte) : Option State :=
  match route s addr with
  | .boot _ | .rom _ => match s.params.romWrite with
    | .ignore => some s
    | .fault => none
  | .ram key => some { s with ram := s.ram.write key v }
  | .ifr => some { s with ifr := v }
  | .ier => some { s with ier := v }
  | .scy => some { s with scy := v }
  | .scx => some { s with scx := v }
  | .ly => some s
  | .stub => some s
  | .bootLock => some (if v.getLsbD 0 then { s with bootLocked := true } else s)
  | .unmapped => none

/-! ## Accesses: an instruction's line either goes on or raises `Exit(reason)` (00_scope.md R11, R12) -/

/-- What a line of an instruction's pseudocode does: a value and the state after it, or an exit and the state it
leaves (60_exceptions.md R338). -/
inductive Access (α : Type) where
  | done (v : α) (s : State)
  | exit (reason : ExitReason) (s : State)

/-- The next line, unless this one raised an exit (40_execution_loop.md R117). -/
def Access.bind {α β : Type} (x : Access α) (k : α → State → Access β) : Access β :=
  match x with
  | .done v s => k v s
  | .exit r s => .exit r s

/-- `MemRead(a, 1)`; a draw is fresh at each read (20_memory.md R64; log entry 4). -/
def memRead (s : State) (addr : Word) : Access Byte :=
  match busRead s addr with
  | .byte v => .done v s
  | .draw => .done (Config.stubDraw s.drawCount) { s with drawCount := s.drawCount + 1 }
  | .outOfBounds => .exit (.outOfBounds addr .read) s

/-- `MemWrite(a, 1, v)`. -/
def memWrite (s : State) (addr : Word) (v : Byte) : Access Unit :=
  match busWrite s addr v with
  | some t => .done () t
  | none => .exit (.outOfBounds addr .write) s

/-- `MemRead(a, 2)`: the low byte first (20_memory.md R71). -/
def memRead16 (s : State) (addr : Word) : Access Word :=
  (memRead s addr).bind fun lo s => (memRead s (addr + 1)).bind fun hi s => .done (wordOf hi lo) s

/-- `MemWrite(a, 2, w)`: the low byte first (20_memory.md R72). -/
def memWrite16 (s : State) (addr : Word) (w : Word) : Access Unit :=
  (memWrite s addr (loByte w)).bind fun _ s => memWrite s (addr + 1) (hiByte w)

/-- `push16(v)`: SP goes down by 2, then the word is stored (41_loads.md R130). -/
def push16 (s : State) (v : Word) : Access Unit := memWrite16 (s.setSp (s.sp - 2)) (s.sp - 2) v

/-- `pop16()`: the word is loaded, then SP goes up by 2 (41_loads.md R131). -/
def pop16 (s : State) : Access Word :=
  (memRead16 s s.sp).bind fun v t => .done v (t.setSp (t.sp + 2))

/-! ## The ends of an instruction -/

/-- The numeric code of an exit reason (60_exceptions.md R330). -/
def ExitReason.code : ExitReason → Nat
  | .clean => 0
  | .stop => 1
  | .halt => 2
  | .outOfBounds _ _ => 3
  | .unimplemented _ => 4

/-- `pcAtExit` (40_execution_loop.md R118): the instruction's address, or one past it for Halt and Stop under
`HALT_PC_ADVANCE`, which moves the recorded address alone: DEDUCED, unsafe (log entry 12). -/
def pcAtExit (reason : ExitReason) (s : State) : Word :=
  if s.params.haltPcAdvance ∧ (reason = .halt ∨ reason = .stop) then s.pc + 1 else s.pc

/-- TAKING AN EXIT, the machine's one exceptional entry (40_execution_loop.md R117, R118; 60_exceptions.md R339): the
status becomes Exited with the reason and the pc; pc is not advanced, the PPU is not stepped, and what the
instruction had written stays (R338; log entry 7). No exit is returned from (60_exceptions.md R339). -/
def raiseExit (reason : ExitReason) (s : State) : State :=
  { s with status := .exited reason (pcAtExit reason s) }

/-- What an instruction reports at its normal end: `return (len, cyc)` (40_execution_loop.md R114). -/
structure Report where
  len : Nat
  cyc : Nat
deriving DecidableEq, Repr

/-- The normal end: pc goes on by len modulo 2^16 (R115), then `PpuStep(4 * cyc)` (R116). -/
def retire (len cyc : Nat) (s : State) : State := ppuStep (4 * cyc) (s.setPc (s.pc + BitVec.ofNat 16 len))

/-- An instruction's body made a step's outcome: its report, or its exit. -/
def finish (x : Access Report) : Host.Outcome State Fault Refusal :=
  match x with
  | .done r s => .next (retire r.len r.cyc s)
  | .exit reason s => .next (raiseExit reason s)

/-! ## Placing bytes from outside -/

/-- Put a byte into the store that answers a read of the address, past the decoder's write rules: the loading of an
image, not an access of the machine. A ROM image is made long enough to hold it. -/
def State.place (s : State) (addr : Word) (v : Byte) : State :=
  match route s addr with
  | .boot off => { s with boot := s.boot.write off v }
  | .rom off => { s with rom := s.rom.write off v, romLen := max s.romLen (off + 1) }
  | .ram key => { s with ram := s.ram.write key v }
  | .ifr => { s with ifr := v }
  | .ier => { s with ier := v }
  | .scy => { s with scy := v }
  | .scx => { s with scx := v }
  | .ly | .stub | .bootLock | .unmapped => s

/-- Place bytes at consecutive addresses. -/
def State.placeAll (s : State) (addr : Word) : List Byte → State
  | [] => s
  | v :: vs => (s.place addr v).placeAll (addr + 1) vs

end Sys2Proof.Machine
end

