-- ==== Sys2Proof/Machine/Operands.lean ====
section
/-! DEFINITION. The operand forms every family uses: the location of an r8 operand (spec/20_memory.md R85,
spec/40_execution_loop.md R121), the high-page address (spec/30_encoding.md R99) and the conditions
(spec/45_control_transfer.md R245). -/

namespace Sys2Proof.Machine

/-- A tagged operand location: a register, or the byte at an address (20_memory.md R85). -/
inductive Loc where
  | reg (r : Reg8)
  | mem (addr : Word)
deriving DecidableEq, Repr

/-- `Loc(i)`: the address is HL as it stands when the location is formed (40_execution_loop.md R121). -/
def loc (s : State) : Operand8 → Loc
  | .reg r => .reg r
  | .atHL => .mem s.hl

/-- `Load(loc)` (R121). -/
def loadLoc (x : Loc) (s : State) : Access Byte :=
  match x with
  | .reg r => .done (s.getR8 r) s
  | .mem addr => memRead s addr

/-- `Store(loc, v)` (R121). -/
def storeLoc (x : Loc) (v : Byte) (s : State) : Access Unit :=
  match x with
  | .reg r => .done () (s.setR8 r v)
  | .mem addr => memWrite s addr v

/-- One of two numbers, by whether the operand is a register or the byte at HL: the cycle counts of
70_reset_and_hazards.md R357 differ so. -/
def byForm (o : Operand8) (ifReg ifMem : Nat) : Nat :=
  match o with
  | .reg _ => ifReg
  | .atHL => ifMem

/-- The address `0xFF00 + a8` (30_encoding.md R99). -/
def highPage (n : Byte) : Word := 0xFF00 + n.setWidth 16

/-- `cond(i)`, on F as it stands at the start of the instruction (45_control_transfer.md R245). -/
def condMet (i : Cond) (f : Flags) : Bool :=
  match i with
  | .nz => !f.z
  | .z => f.z
  | .nc => !f.c
  | .c => f.c

end Sys2Proof.Machine
end

