-- ==== Sys2Proof/Machine/Flags.lean ====
section
/-! DEFINITION. Every result and flag computation the spec gives: the half-carries and 8-bit sums
(spec/42_alu8.md R161 to R164), the bitwise operations (R180 to R188), INC and DEC (R192, R194), DAA (R196), the
signed-offset sum (spec/43_alu16.md R201) and the shifts (spec/44_rotate_shift_bit.md R215 to R236). -/

namespace Sys2Proof.Machine

/-! ## Half-carry (42_alu8.md R161) -/

/-- `hcAdd8`. -/
def hcAdd8 (p : HcPolicy) (a b : Byte) : Bool :=
  match p with
  | .nibble => (((a &&& 0xF) + (b &&& 0xF)) &&& 0x10) == 0x10
  | .uninterpreted => Config.hcAdd8 a b

/-- `hcSub8`. -/
def hcSub8 (p : HcPolicy) (a b : Byte) : Bool :=
  match p with
  | .nibble => (((a &&& 0xF) - (b &&& 0xF)) &&& 0x10) == 0x10
  | .uninterpreted => Config.hcSub8 a b

/-- `hcInc8`. -/
def hcInc8 (p : HcPolicy) (v : Byte) : Bool :=
  match p with
  | .nibble => (((v &&& 0xF) + 1) &&& 0x10) == 0x10
  | .uninterpreted => Config.hcInc8 v

/-- `hcDec8`. -/
def hcDec8 (p : HcPolicy) (v : Byte) : Bool :=
  match p with
  | .nibble => (((v &&& 0xF) - 1) &&& 0x10) == 0x10
  | .uninterpreted => Config.hcDec8 v

/-- `hcAdd16`, the carry out of bit 11. -/
def hcAdd16 (p : HcPolicy) (a b : Word) : Bool :=
  match p with
  | .nibble => (((a &&& 0xFFF) + (b &&& 0xFFF)) &&& 0x1000) == 0x1000
  | .uninterpreted => Config.hcAdd16 a b

/-! ## 8-bit operations: a result and the flags -/

/-- `Add8(a, b)` (R162). -/
def add8 (p : HcPolicy) (a b : Byte) : Byte × Flags :=
  (a + b, ⟨a + b == 0, false, hcAdd8 p a b, decide (a.toNat + b.toNat > 0xFF)⟩)

/-- `Sub8(a, b)` (R163). -/
def sub8 (p : HcPolicy) (a b : Byte) : Byte × Flags :=
  (a - b, ⟨a - b == 0, true, hcSub8 p a b, decide (b.toNat > a.toNat)⟩)

/-- A Boolean as a byte. -/
def carryByte (c : Bool) : Byte := if c then 1 else 0

/-- The carry pre-add of ADC and SBC: the carry is folded into the operand with an 8-bit wrap (R164). -/
def preAdd (c : Bool) (v : Byte) : Byte := v + carryByte c

/-- A bitwise result with its flags: Z from the result, N and C clear, H given (R180, R183, R186). -/
def logic8 (h : Bool) (r : Byte) : Byte × Flags := (r, ⟨r == 0, false, h, false⟩)

/-- The eight ALU operations on A and a source operand: what is computed, and the flags (R168 to R191). -/
def aluCompute (op : AluOp) (p : HcPolicy) (f : Flags) (a v : Byte) : Byte × Flags :=
  match op with
  | .add => add8 p a v
  | .adc => add8 p a (preAdd f.c v)
  | .sub => sub8 p a v
  | .sbc => sub8 p a (preAdd f.c v)
  | .and => logic8 true (a &&& v)
  | .xor => logic8 false (a ^^^ v)
  | .or => logic8 false (a ||| v)
  | .cp => sub8 p a v

/-- The ALU operation done: A written, but by CP (R189), and F written. -/
def aluApply (op : AluOp) (v : Byte) (s : State) : State :=
  let r := aluCompute op s.params.hcPolicy s.f s.a v
  match op with
  | .cp => s.setF r.2
  | _ => (s.setR8 .a r.1).setF r.2

/-- `INC`'s result and flags; C is kept (R192). -/
def inc8 (p : HcPolicy) (f : Flags) (v : Byte) : Byte × Flags :=
  (v + 1, ⟨v + 1 == 0, false, hcInc8 p v, f.c⟩)

/-- `DEC`'s result and flags; C is kept (R194). -/
def dec8 (p : HcPolicy) (f : Flags) (v : Byte) : Byte × Flags :=
  (v - 1, ⟨v - 1 == 0, true, hcDec8 p v, f.c⟩)

/-- `DAA`'s result and flags (R196). -/
def daaCompute (f : Flags) (a : Byte) : Byte × Flags :=
  if f.n = false then
    let hi := f.c || decide (a.toNat > 0x99)
    let a1 := if hi then a + 0x60 else a
    let a2 := if f.h || decide ((a1 &&& 0x0F).toNat > 0x09) then a1 + 0x06 else a1
    (a2, ⟨a2 == 0, f.n, false, f.c || hi⟩)
  else
    let a1 := if f.c then a - 0x60 else a
    let a2 := if f.h then a1 - 0x06 else a1
    (a2, ⟨a2 == 0, f.n, false, f.c⟩)

/-! ## 16-bit operations -/

/-- `ADD HL,rr`'s result and flags; Z is kept (43_alu16.md R204). -/
def addHL16 (p : HcPolicy) (f : Flags) (a b : Word) : Word × Flags :=
  (a + b, ⟨f.z, false, hcAdd16 p a b, decide (a.toNat + b.toNat > 0xFFFF)⟩)

/-- `spOffset(sp, e)`: the offset is signed in the result and unsigned in the flags (43_alu16.md R201). -/
def spOffset (p : SpOffsetFlags) (sp : Word) (e : Byte) : Word × Flags :=
  (sp + sext16 e,
    match p with
    | .lowByte =>
      ⟨false, false, decide (sp.toNat % 0x10 + e.toNat % 0x10 > 0xF), decide (sp.toNat % 0x100 + e.toNat > 0xFF)⟩
    | .wide12_16 =>
      ⟨false, false, decide (sp.toNat % 0x1000 + e.toNat > 0xFFF), decide (sp.toNat + e.toNat > 0xFFFF)⟩)

/-! ## Rotates and shifts -/

/-- The extended shifts: the result and the bit shifted out (44_rotate_shift_bit.md R221 to R236). -/
def shiftCompute (op : ShiftOp) (carry : Bool) (v : Byte) : Byte × Bool :=
  match op with
  | .rlc => ((v <<< 1) ||| (v >>> 7), v.getLsbD 7)
  | .rrc => ((v >>> 1) ||| ((v &&& 1) <<< 7), v.getLsbD 0)
  | .rl => ((v <<< 1) ||| carryByte carry, v.getLsbD 7)
  | .rr => ((v >>> 1) ||| (carryByte carry <<< 7), v.getLsbD 0)
  | .sla => (v <<< 1, v.getLsbD 7)
  | .sra => ((v >>> 1) ||| (v &&& 0x80), v.getLsbD 0)
  | .swap => (((v &&& 0x0F) <<< 4) ||| (v >>> 4), false)
  | .srl => (v >>> 1, v.getLsbD 0)

/-- The flags of an extended shift: Z from the result, N and H clear, C the bit shifted out (R220). -/
def shiftFlags (r : Byte × Bool) : Flags := ⟨r.1 == 0, false, false, r.2⟩

/-- The accumulator rotates: the result and the bit rotated out (R216 to R219). -/
def accRotCompute (op : AccRot) (carry : Bool) (v : Byte) : Byte × Bool :=
  match op with
  | .rlca => ((v <<< 1) ||| (v >>> 7), v.getLsbD 7)
  | .rrca => ((v >>> 1) ||| ((v &&& 1) <<< 7), v.getLsbD 0)
  | .rla => ((v <<< 1) ||| carryByte carry, v.getLsbD 7)
  | .rra => ((v >>> 1) ||| (carryByte carry <<< 7), v.getLsbD 0)

/-- `accZ(r)` (R215, R216). -/
def accZ (p : AccRotZ) (r : Byte) : Bool :=
  match p with
  | .fromResult => r == 0
  | .zero => false

/-- The flags of an accumulator rotate (R215). -/
def accRotFlags (p : AccRotZ) (r : Byte × Bool) : Flags := ⟨accZ p r.1, false, false, r.2⟩

/-- `BIT`'s flags: Z is set if the bit is 0, the others are kept (R237). -/
def bitFlags (f : Flags) (b : Fin 8) (v : Byte) : Flags := ⟨!v.getLsbD b.val, f.n, f.h, f.c⟩

/-- `v & ~(1 << b) & 0xFF` (R239). -/
def resetBit (b : Fin 8) (v : Byte) : Byte := v &&& ~~~(1#8 <<< b.val)

/-- `v | (1 << b)` (R241). -/
def setBit (b : Fin 8) (v : Byte) : Byte := v ||| (1#8 <<< b.val)

end Sys2Proof.Machine
end

