-- ==== Sys2Proof/Machine/Alu16.lean ====
section
/-! DEFINITION. 16-bit arithmetic (spec/43_alu16.md R200 to R206): the shared operations, then one meaning per row. -/

namespace Sys2Proof.Machine

/-- `INC rr`: no flags (R202). -/
def inc16 (r : Reg16) (s : State) : Host.Outcome State Fault Refusal :=
  finish <| .done ⟨1, 2⟩ (s.setR16 r (s.getR16 r + 1))

/-- `DEC rr`: no flags (R203). -/
def dec16 (r : Reg16) (s : State) : Host.Outcome State Fault Refusal :=
  finish <| .done ⟨1, 2⟩ (s.setR16 r (s.getR16 r - 1))

/-- `ADD HL,rr` (R204). -/
def addHL (r : Reg16) (s : State) : Host.Outcome State Fault Refusal :=
  let x := addHL16 s.params.hcPolicy s.f s.hl (s.getR16 r)
  finish <| .done ⟨1, 2⟩ ((s.setHl x.1).setF x.2)

/-- `ADD SP,e8` (R205). -/
def addSp (e : Byte) (s : State) : Host.Outcome State Fault Refusal :=
  let x := spOffset s.params.spOffsetFlags s.sp e
  finish <| .done ⟨2, 4⟩ ((s.setSp x.1).setF x.2)

/-- `LD HL,SP+e8` (R206). -/
def ldHLSp (e : Byte) (s : State) : Host.Outcome State Fault Refusal :=
  let x := spOffset s.params.spOffsetFlags s.sp e
  finish <| .done ⟨2, 3⟩ ((s.setHl x.1).setF x.2)

/-! ## One meaning per row of spec/opcode_table.json -/

/-- `INC BC` (R202). -/
def execInc_BC (s : State) : Host.Outcome State Fault Refusal := inc16 .bc s

/-- `ADD HL,BC` (R204). -/
def execAdd_HL_BC (s : State) : Host.Outcome State Fault Refusal := addHL .bc s

/-- `DEC BC` (R203). -/
def execDec_BC (s : State) : Host.Outcome State Fault Refusal := dec16 .bc s

/-- `INC DE` (R202). -/
def execInc_DE (s : State) : Host.Outcome State Fault Refusal := inc16 .de s

/-- `ADD HL,DE` (R204). -/
def execAdd_HL_DE (s : State) : Host.Outcome State Fault Refusal := addHL .de s

/-- `DEC DE` (R203). -/
def execDec_DE (s : State) : Host.Outcome State Fault Refusal := dec16 .de s

/-- `INC HL` (R202). -/
def execInc_HL (s : State) : Host.Outcome State Fault Refusal := inc16 .hl s

/-- `ADD HL,HL` (R204). -/
def execAdd_HL_HL (s : State) : Host.Outcome State Fault Refusal := addHL .hl s

/-- `DEC HL` (R203). -/
def execDec_HL (s : State) : Host.Outcome State Fault Refusal := dec16 .hl s

/-- `INC SP` (R202). -/
def execInc_SP (s : State) : Host.Outcome State Fault Refusal := inc16 .sp s

/-- `ADD HL,SP` (R204). -/
def execAdd_HL_SP (s : State) : Host.Outcome State Fault Refusal := addHL .sp s

/-- `DEC SP` (R203). -/
def execDec_SP (s : State) : Host.Outcome State Fault Refusal := dec16 .sp s

/-- `ADD SP,e8` (R205). -/
def execAdd_SP_e8 (e : Byte) (s : State) : Host.Outcome State Fault Refusal := addSp e s

/-- `LD HL,SP+e8` (R206). -/
def execLd_HL_SPe8 (e : Byte) (s : State) : Host.Outcome State Fault Refusal := ldHLSp e s

end Sys2Proof.Machine
end

