-- ==== Sys2Proof/Machine/Alu8.lean ====
section
/-! DEFINITION. 8-bit arithmetic and logic (spec/42_alu8.md R165 to R199): the shared operations, then one meaning per row. -/

namespace Sys2Proof.Machine

/-- An ALU operation with a register or the byte at HL (R165, R168 to R190). -/
def aluLoc (op : AluOp) (src : Operand8) (s : State) : Host.Outcome State Fault Refusal :=
  finish <| (loadLoc (loc s src) s).bind fun v t => .done ⟨1, byForm src 1 2⟩ (aluApply op v t)

/-- An ALU operation with an immediate (R165, R170 to R191). -/
def aluImm (op : AluOp) (n : Byte) (s : State) : Host.Outcome State Fault Refusal :=
  finish <| .done ⟨2, 2⟩ (aluApply op n s)

/-- `INC r8[y]`: one read, one write, then the flags (R192, R193). -/
def incLoc (o : Operand8) (s : State) : Host.Outcome State Fault Refusal :=
  finish <| (loadLoc (loc s o) s).bind fun v t =>
    let r := inc8 t.params.hcPolicy t.f v
    (storeLoc (loc s o) r.1 t).bind fun _ u => .done ⟨1, byForm o 1 3⟩ (u.setF r.2)

/-- `DEC r8[y]`: one read, one write, then the flags (R194, R195). -/
def decLoc (o : Operand8) (s : State) : Host.Outcome State Fault Refusal :=
  finish <| (loadLoc (loc s o) s).bind fun v t =>
    let r := dec8 t.params.hcPolicy t.f v
    (storeLoc (loc s o) r.1 t).bind fun _ u => .done ⟨1, byForm o 1 3⟩ (u.setF r.2)

/-- `DAA` (R196). -/
def daa (s : State) : Host.Outcome State Fault Refusal :=
  let r := daaCompute s.f s.a
  finish <| .done ⟨1, 1⟩ ((s.setR8 .a r.1).setF r.2)

/-- `CPL` (R197). -/
def cpl (s : State) : Host.Outcome State Fault Refusal :=
  finish <| .done ⟨1, 1⟩ ((s.setR8 .a (~~~s.a)).setF ⟨s.f.z, true, true, s.f.c⟩)

/-- `SCF` (R198). -/
def scf (s : State) : Host.Outcome State Fault Refusal :=
  finish <| .done ⟨1, 1⟩ (s.setF ⟨s.f.z, false, false, true⟩)

/-- `CCF` (R199). -/
def ccf (s : State) : Host.Outcome State Fault Refusal :=
  finish <| .done ⟨1, 1⟩ (s.setF ⟨s.f.z, false, false, !s.f.c⟩)

/-! ## One meaning per row of spec/opcode_table.json -/

/-- `INC B` (R192). -/
def execInc_B (s : State) : Host.Outcome State Fault Refusal := incLoc (.reg .b) s

/-- `DEC B` (R194). -/
def execDec_B (s : State) : Host.Outcome State Fault Refusal := decLoc (.reg .b) s

/-- `INC C` (R192). -/
def execInc_C (s : State) : Host.Outcome State Fault Refusal := incLoc (.reg .c) s

/-- `DEC C` (R194). -/
def execDec_C (s : State) : Host.Outcome State Fault Refusal := decLoc (.reg .c) s

/-- `INC D` (R192). -/
def execInc_D (s : State) : Host.Outcome State Fault Refusal := incLoc (.reg .d) s

/-- `DEC D` (R194). -/
def execDec_D (s : State) : Host.Outcome State Fault Refusal := decLoc (.reg .d) s

/-- `INC E` (R192). -/
def execInc_E (s : State) : Host.Outcome State Fault Refusal := incLoc (.reg .e) s

/-- `DEC E` (R194). -/
def execDec_E (s : State) : Host.Outcome State Fault Refusal := decLoc (.reg .e) s

/-- `INC H` (R192). -/
def execInc_H (s : State) : Host.Outcome State Fault Refusal := incLoc (.reg .h) s

/-- `DEC H` (R194). -/
def execDec_H (s : State) : Host.Outcome State Fault Refusal := decLoc (.reg .h) s

/-- `DAA` (R196). -/
def execDaa (s : State) : Host.Outcome State Fault Refusal := daa s

/-- `INC L` (R192). -/
def execInc_L (s : State) : Host.Outcome State Fault Refusal := incLoc (.reg .l) s

/-- `DEC L` (R194). -/
def execDec_L (s : State) : Host.Outcome State Fault Refusal := decLoc (.reg .l) s

/-- `CPL` (R197). -/
def execCpl (s : State) : Host.Outcome State Fault Refusal := cpl s

/-- `INC (HL)` (R193). -/
def execInc_atHL (s : State) : Host.Outcome State Fault Refusal := incLoc .atHL s

/-- `DEC (HL)` (R195). -/
def execDec_atHL (s : State) : Host.Outcome State Fault Refusal := decLoc .atHL s

/-- `SCF` (R198). -/
def execScf (s : State) : Host.Outcome State Fault Refusal := scf s

/-- `INC A` (R192). -/
def execInc_A (s : State) : Host.Outcome State Fault Refusal := incLoc (.reg .a) s

/-- `DEC A` (R194). -/
def execDec_A (s : State) : Host.Outcome State Fault Refusal := decLoc (.reg .a) s

/-- `CCF` (R199). -/
def execCcf (s : State) : Host.Outcome State Fault Refusal := ccf s

/-- `ADD A,B` (R168). -/
def execAdd_A_B (s : State) : Host.Outcome State Fault Refusal := aluLoc .add (.reg .b) s
/-- `ADD A,C` (R168). -/
def execAdd_A_C (s : State) : Host.Outcome State Fault Refusal := aluLoc .add (.reg .c) s
/-- `ADD A,D` (R168). -/
def execAdd_A_D (s : State) : Host.Outcome State Fault Refusal := aluLoc .add (.reg .d) s
/-- `ADD A,E` (R168). -/
def execAdd_A_E (s : State) : Host.Outcome State Fault Refusal := aluLoc .add (.reg .e) s
/-- `ADD A,H` (R168). -/
def execAdd_A_H (s : State) : Host.Outcome State Fault Refusal := aluLoc .add (.reg .h) s
/-- `ADD A,L` (R168). -/
def execAdd_A_L (s : State) : Host.Outcome State Fault Refusal := aluLoc .add (.reg .l) s

/-- `ADD A,(HL)` (R169). -/
def execAdd_A_atHL (s : State) : Host.Outcome State Fault Refusal := aluLoc .add .atHL s

/-- `ADD A,A` (R168). -/
def execAdd_A_A (s : State) : Host.Outcome State Fault Refusal := aluLoc .add (.reg .a) s

/-- `ADC A,B` (R171). -/
def execAdc_A_B (s : State) : Host.Outcome State Fault Refusal := aluLoc .adc (.reg .b) s
/-- `ADC A,C` (R171). -/
def execAdc_A_C (s : State) : Host.Outcome State Fault Refusal := aluLoc .adc (.reg .c) s
/-- `ADC A,D` (R171). -/
def execAdc_A_D (s : State) : Host.Outcome State Fault Refusal := aluLoc .adc (.reg .d) s
/-- `ADC A,E` (R171). -/
def execAdc_A_E (s : State) : Host.Outcome State Fault Refusal := aluLoc .adc (.reg .e) s
/-- `ADC A,H` (R171). -/
def execAdc_A_H (s : State) : Host.Outcome State Fault Refusal := aluLoc .adc (.reg .h) s
/-- `ADC A,L` (R171). -/
def execAdc_A_L (s : State) : Host.Outcome State Fault Refusal := aluLoc .adc (.reg .l) s

/-- `ADC A,(HL)` (R172). -/
def execAdc_A_atHL (s : State) : Host.Outcome State Fault Refusal := aluLoc .adc .atHL s

/-- `ADC A,A` (R171). -/
def execAdc_A_A (s : State) : Host.Outcome State Fault Refusal := aluLoc .adc (.reg .a) s

/-- `SUB B` (R174). -/
def execSub_B (s : State) : Host.Outcome State Fault Refusal := aluLoc .sub (.reg .b) s
/-- `SUB C` (R174). -/
def execSub_C (s : State) : Host.Outcome State Fault Refusal := aluLoc .sub (.reg .c) s
/-- `SUB D` (R174). -/
def execSub_D (s : State) : Host.Outcome State Fault Refusal := aluLoc .sub (.reg .d) s
/-- `SUB E` (R174). -/
def execSub_E (s : State) : Host.Outcome State Fault Refusal := aluLoc .sub (.reg .e) s
/-- `SUB H` (R174). -/
def execSub_H (s : State) : Host.Outcome State Fault Refusal := aluLoc .sub (.reg .h) s
/-- `SUB L` (R174). -/
def execSub_L (s : State) : Host.Outcome State Fault Refusal := aluLoc .sub (.reg .l) s

/-- `SUB (HL)` (R175). -/
def execSub_atHL (s : State) : Host.Outcome State Fault Refusal := aluLoc .sub .atHL s

/-- `SUB A` (R174). -/
def execSub_A (s : State) : Host.Outcome State Fault Refusal := aluLoc .sub (.reg .a) s

/-- `SBC A,B` (R177). -/
def execSbc_A_B (s : State) : Host.Outcome State Fault Refusal := aluLoc .sbc (.reg .b) s
/-- `SBC A,C` (R177). -/
def execSbc_A_C (s : State) : Host.Outcome State Fault Refusal := aluLoc .sbc (.reg .c) s
/-- `SBC A,D` (R177). -/
def execSbc_A_D (s : State) : Host.Outcome State Fault Refusal := aluLoc .sbc (.reg .d) s
/-- `SBC A,E` (R177). -/
def execSbc_A_E (s : State) : Host.Outcome State Fault Refusal := aluLoc .sbc (.reg .e) s
/-- `SBC A,H` (R177). -/
def execSbc_A_H (s : State) : Host.Outcome State Fault Refusal := aluLoc .sbc (.reg .h) s
/-- `SBC A,L` (R177). -/
def execSbc_A_L (s : State) : Host.Outcome State Fault Refusal := aluLoc .sbc (.reg .l) s

/-- `SBC A,(HL)` (R178). -/
def execSbc_A_atHL (s : State) : Host.Outcome State Fault Refusal := aluLoc .sbc .atHL s

/-- `SBC A,A` (R177). -/
def execSbc_A_A (s : State) : Host.Outcome State Fault Refusal := aluLoc .sbc (.reg .a) s

/-- `AND B` (R180). -/
def execAnd_B (s : State) : Host.Outcome State Fault Refusal := aluLoc .and (.reg .b) s
/-- `AND C` (R180). -/
def execAnd_C (s : State) : Host.Outcome State Fault Refusal := aluLoc .and (.reg .c) s
/-- `AND D` (R180). -/
def execAnd_D (s : State) : Host.Outcome State Fault Refusal := aluLoc .and (.reg .d) s
/-- `AND E` (R180). -/
def execAnd_E (s : State) : Host.Outcome State Fault Refusal := aluLoc .and (.reg .e) s
/-- `AND H` (R180). -/
def execAnd_H (s : State) : Host.Outcome State Fault Refusal := aluLoc .and (.reg .h) s
/-- `AND L` (R180). -/
def execAnd_L (s : State) : Host.Outcome State Fault Refusal := aluLoc .and (.reg .l) s

/-- `AND (HL)` (R181). -/
def execAnd_atHL (s : State) : Host.Outcome State Fault Refusal := aluLoc .and .atHL s

/-- `AND A` (R180). -/
def execAnd_A (s : State) : Host.Outcome State Fault Refusal := aluLoc .and (.reg .a) s

/-- `XOR B` (R183). -/
def execXor_B (s : State) : Host.Outcome State Fault Refusal := aluLoc .xor (.reg .b) s
/-- `XOR C` (R183). -/
def execXor_C (s : State) : Host.Outcome State Fault Refusal := aluLoc .xor (.reg .c) s
/-- `XOR D` (R183). -/
def execXor_D (s : State) : Host.Outcome State Fault Refusal := aluLoc .xor (.reg .d) s
/-- `XOR E` (R183). -/
def execXor_E (s : State) : Host.Outcome State Fault Refusal := aluLoc .xor (.reg .e) s
/-- `XOR H` (R183). -/
def execXor_H (s : State) : Host.Outcome State Fault Refusal := aluLoc .xor (.reg .h) s
/-- `XOR L` (R183). -/
def execXor_L (s : State) : Host.Outcome State Fault Refusal := aluLoc .xor (.reg .l) s

/-- `XOR (HL)` (R184). -/
def execXor_atHL (s : State) : Host.Outcome State Fault Refusal := aluLoc .xor .atHL s

/-- `XOR A` (R183). -/
def execXor_A (s : State) : Host.Outcome State Fault Refusal := aluLoc .xor (.reg .a) s

/-- `OR B` (R186). -/
def execOr_B (s : State) : Host.Outcome State Fault Refusal := aluLoc .or (.reg .b) s
/-- `OR C` (R186). -/
def execOr_C (s : State) : Host.Outcome State Fault Refusal := aluLoc .or (.reg .c) s
/-- `OR D` (R186). -/
def execOr_D (s : State) : Host.Outcome State Fault Refusal := aluLoc .or (.reg .d) s
/-- `OR E` (R186). -/
def execOr_E (s : State) : Host.Outcome State Fault Refusal := aluLoc .or (.reg .e) s
/-- `OR H` (R186). -/
def execOr_H (s : State) : Host.Outcome State Fault Refusal := aluLoc .or (.reg .h) s
/-- `OR L` (R186). -/
def execOr_L (s : State) : Host.Outcome State Fault Refusal := aluLoc .or (.reg .l) s

/-- `OR (HL)` (R187). -/
def execOr_atHL (s : State) : Host.Outcome State Fault Refusal := aluLoc .or .atHL s

/-- `OR A` (R186). -/
def execOr_A (s : State) : Host.Outcome State Fault Refusal := aluLoc .or (.reg .a) s

/-- `CP B` (R189). -/
def execCp_B (s : State) : Host.Outcome State Fault Refusal := aluLoc .cp (.reg .b) s
/-- `CP C` (R189). -/
def execCp_C (s : State) : Host.Outcome State Fault Refusal := aluLoc .cp (.reg .c) s
/-- `CP D` (R189). -/
def execCp_D (s : State) : Host.Outcome State Fault Refusal := aluLoc .cp (.reg .d) s
/-- `CP E` (R189). -/
def execCp_E (s : State) : Host.Outcome State Fault Refusal := aluLoc .cp (.reg .e) s
/-- `CP H` (R189). -/
def execCp_H (s : State) : Host.Outcome State Fault Refusal := aluLoc .cp (.reg .h) s
/-- `CP L` (R189). -/
def execCp_L (s : State) : Host.Outcome State Fault Refusal := aluLoc .cp (.reg .l) s

/-- `CP (HL)` (R190). -/
def execCp_atHL (s : State) : Host.Outcome State Fault Refusal := aluLoc .cp .atHL s

/-- `CP A` (R189). -/
def execCp_A (s : State) : Host.Outcome State Fault Refusal := aluLoc .cp (.reg .a) s

/-- `ADD A,d8` (R170). -/
def execAdd_A_d8 (n : Byte) (s : State) : Host.Outcome State Fault Refusal := aluImm .add n s

/-- `ADC A,d8` (R173). -/
def execAdc_A_d8 (n : Byte) (s : State) : Host.Outcome State Fault Refusal := aluImm .adc n s

/-- `SUB d8` (R176). -/
def execSub_d8 (n : Byte) (s : State) : Host.Outcome State Fault Refusal := aluImm .sub n s

/-- `SBC A,d8` (R179). -/
def execSbc_A_d8 (n : Byte) (s : State) : Host.Outcome State Fault Refusal := aluImm .sbc n s

/-- `AND d8` (R182). -/
def execAnd_d8 (n : Byte) (s : State) : Host.Outcome State Fault Refusal := aluImm .and n s

/-- `XOR d8` (R185). -/
def execXor_d8 (n : Byte) (s : State) : Host.Outcome State Fault Refusal := aluImm .xor n s

/-- `OR d8` (R188). -/
def execOr_d8 (n : Byte) (s : State) : Host.Outcome State Fault Refusal := aluImm .or n s

/-- `CP d8` (R191). -/
def execCp_d8 (n : Byte) (s : State) : Host.Outcome State Fault Refusal := aluImm .cp n s

end Sys2Proof.Machine
end

