-- ==== Sys2Proof/Machine/Control.lean ====
section
/-! DEFINITION. Jumps, calls, returns and restarts (spec/45_control_transfer.md R245 to R256): the shared operations, then one meaning per row. -/

namespace Sys2Proof.Machine

/-- `JP a16` (R246). -/
def jump (a : Word) (s : State) : Host.Outcome State Fault Refusal :=
  finish <| .done ⟨0, 4⟩ (s.setPc a)

/-- `JP cc,a16` (R247). -/
def jumpCc (i : Cond) (a : Word) (s : State) : Host.Outcome State Fault Refusal :=
  finish <| if condMet i s.f then .done ⟨0, 4⟩ (s.setPc a) else .done ⟨3, 3⟩ s

/-- `JP HL`: no memory access (R248). -/
def jumpHL (s : State) : Host.Outcome State Fault Refusal :=
  finish <| .done ⟨0, 1⟩ (s.setPc s.hl)

/-- The target of a relative jump: relative to the address after the instruction (R249). -/
def relTarget (e : Byte) (s : State) : Word := s.pc + 2 + sext16 e

/-- `JR e8` (R249). -/
def jumpRel (e : Byte) (s : State) : Host.Outcome State Fault Refusal :=
  finish <| .done ⟨0, 3⟩ (s.setPc (relTarget e s))

/-- `JR cc,e8` (R250). -/
def jumpRelCc (i : Cond) (e : Byte) (s : State) : Host.Outcome State Fault Refusal :=
  finish <| if condMet i s.f then .done ⟨0, 3⟩ (s.setPc (relTarget e s)) else .done ⟨2, 2⟩ s

/-- A push of the return address, then the jump: the taken call and the restart (R251, R252, R256). -/
def callTo (len cyc : Nat) (target : Word) (s : State) : Access Report :=
  (push16 s (s.pc + BitVec.ofNat 16 len)).bind fun _ t => .done ⟨0, cyc⟩ (t.setPc target)

/-- `CALL a16` (R251). -/
def call (a : Word) (s : State) : Host.Outcome State Fault Refusal := finish (callTo 3 6 a s)

/-- `CALL cc,a16` (R252). -/
def callCc (i : Cond) (a : Word) (s : State) : Host.Outcome State Fault Refusal :=
  finish <| if condMet i s.f then callTo 3 6 a s else .done ⟨3, 3⟩ s

/-- A pop into pc: the taken return (R253, R254). -/
def retWith (cyc : Nat) (s : State) : Access Report :=
  (pop16 s).bind fun v t => .done ⟨0, cyc⟩ (t.setPc v)

/-- `RET` (R253). -/
def ret (s : State) : Host.Outcome State Fault Refusal := finish (retWith 4 s)

/-- `RET cc` (R254). -/
def retCc (i : Cond) (s : State) : Host.Outcome State Fault Refusal :=
  finish <| if condMet i s.f then retWith 5 s else .done ⟨1, 2⟩ s

/-- `RETI`: IME is written after the pop (R255). -/
def reti (s : State) : Host.Outcome State Fault Refusal :=
  finish <| (retWith 4 s).bind fun r t => .done r (t.setIme true)

/-- `RST 8*y` (R256). -/
def restart (y : Fin 8) (s : State) : Host.Outcome State Fault Refusal :=
  finish (callTo 1 4 (BitVec.ofNat 16 (8 * y.val)) s)

/-! ## One meaning per row of spec/opcode_table.json -/

/-- `JR e8` (R249). -/
def execJr_e8 (e : Byte) (s : State) : Host.Outcome State Fault Refusal := jumpRel e s

/-- `JR NZ,e8` (R250). -/
def execJr_NZ_e8 (e : Byte) (s : State) : Host.Outcome State Fault Refusal := jumpRelCc .nz e s
/-- `JR Z,e8` (R250). -/
def execJr_Z_e8 (e : Byte) (s : State) : Host.Outcome State Fault Refusal := jumpRelCc .z e s
/-- `JR NC,e8` (R250). -/
def execJr_NC_e8 (e : Byte) (s : State) : Host.Outcome State Fault Refusal := jumpRelCc .nc e s
/-- `JR C,e8` (R250). -/
def execJr_C_e8 (e : Byte) (s : State) : Host.Outcome State Fault Refusal := jumpRelCc .c e s

/-- `RET NZ` (R254). -/
def execRet_NZ (s : State) : Host.Outcome State Fault Refusal := retCc .nz s

/-- `JP NZ,a16` (R247). -/
def execJp_NZ_a16 (a : Word) (s : State) : Host.Outcome State Fault Refusal := jumpCc .nz a s

/-- `JP a16` (R246). -/
def execJp_a16 (a : Word) (s : State) : Host.Outcome State Fault Refusal := jump a s

/-- `CALL NZ,a16` (R252). -/
def execCall_NZ_a16 (a : Word) (s : State) : Host.Outcome State Fault Refusal := callCc .nz a s

/-- `RST 00H` (R256). -/
def execRst_00H (s : State) : Host.Outcome State Fault Refusal := restart 0 s

/-- `RET Z` (R254). -/
def execRet_Z (s : State) : Host.Outcome State Fault Refusal := retCc .z s

/-- `RET` (R253). -/
def execRet (s : State) : Host.Outcome State Fault Refusal := ret s

/-- `JP Z,a16` (R247). -/
def execJp_Z_a16 (a : Word) (s : State) : Host.Outcome State Fault Refusal := jumpCc .z a s

/-- `CALL Z,a16` (R252). -/
def execCall_Z_a16 (a : Word) (s : State) : Host.Outcome State Fault Refusal := callCc .z a s

/-- `CALL a16` (R251). -/
def execCall_a16 (a : Word) (s : State) : Host.Outcome State Fault Refusal := call a s

/-- `RST 08H` (R256). -/
def execRst_08H (s : State) : Host.Outcome State Fault Refusal := restart 1 s

/-- `RET NC` (R254). -/
def execRet_NC (s : State) : Host.Outcome State Fault Refusal := retCc .nc s

/-- `JP NC,a16` (R247). -/
def execJp_NC_a16 (a : Word) (s : State) : Host.Outcome State Fault Refusal := jumpCc .nc a s

/-- `CALL NC,a16` (R252). -/
def execCall_NC_a16 (a : Word) (s : State) : Host.Outcome State Fault Refusal := callCc .nc a s

/-- `RST 10H` (R256). -/
def execRst_10H (s : State) : Host.Outcome State Fault Refusal := restart 2 s

/-- `RET C` (R254). -/
def execRet_C (s : State) : Host.Outcome State Fault Refusal := retCc .c s

/-- `RETI` (R255). -/
def execReti (s : State) : Host.Outcome State Fault Refusal := reti s

/-- `JP C,a16` (R247). -/
def execJp_C_a16 (a : Word) (s : State) : Host.Outcome State Fault Refusal := jumpCc .c a s

/-- `CALL C,a16` (R252). -/
def execCall_C_a16 (a : Word) (s : State) : Host.Outcome State Fault Refusal := callCc .c a s

/-- `RST 18H` (R256). -/
def execRst_18H (s : State) : Host.Outcome State Fault Refusal := restart 3 s
/-- `RST 20H` (R256). -/
def execRst_20H (s : State) : Host.Outcome State Fault Refusal := restart 4 s

/-- `JP HL` (R248). -/
def execJp_HL (s : State) : Host.Outcome State Fault Refusal := jumpHL s

/-- `RST 28H` (R256). -/
def execRst_28H (s : State) : Host.Outcome State Fault Refusal := restart 5 s
/-- `RST 30H` (R256). -/
def execRst_30H (s : State) : Host.Outcome State Fault Refusal := restart 6 s
/-- `RST 38H` (R256). -/
def execRst_38H (s : State) : Host.Outcome State Fault Refusal := restart 7 s

end Sys2Proof.Machine
end

