-- ==== Sys2Proof/Machine/Loads.lean ====
section
/-! DEFINITION. Loads, stores and stack transfers (spec/41_loads.md R132 to R156): the shared operations, then one meaning per row. -/

namespace Sys2Proof.Machine

/-- `LD r8[y],r8[z]` in its three forms: one cycle between registers, two with the byte at HL; the address is HL as
it stands at the start (R132, R133, R134). -/
def ldLoc (dst src : Operand8) (s : State) : Host.Outcome State Fault Refusal :=
  finish <| (loadLoc (loc s src) s).bind fun v t =>
    (storeLoc (loc s dst) v t).bind fun _ u => .done ⟨1, byForm dst (byForm src 1 2) 2⟩ u

/-- `LD r8[y],d8` (R135, R136). -/
def ldLocImm (dst : Operand8) (n : Byte) (s : State) : Host.Outcome State Fault Refusal :=
  finish <| (storeLoc (loc s dst) n s).bind fun _ u => .done ⟨2, byForm dst 2 3⟩ u

/-- A load of A from an address (R137, R138, R145, R147, R149). -/
def ldADirect (len cyc : Nat) (addr : Word) (s : State) : Host.Outcome State Fault Refusal :=
  finish <| (memRead s addr).bind fun v t => .done ⟨len, cyc⟩ (t.setR8 .a v)

/-- A store of A to an address (R139, R140, R146, R148, R150). -/
def ldDirectA (len cyc : Nat) (addr : Word) (s : State) : Host.Outcome State Fault Refusal :=
  finish <| (memWrite s addr s.a).bind fun _ t => .done ⟨len, cyc⟩ t

/-- `LD A,(HL+)` and `LD A,(HL-)`: HL is stepped after the load (R141, R142). -/
def ldAHLStep (step : Word) (s : State) : Host.Outcome State Fault Refusal :=
  finish <| (memRead s s.hl).bind fun v t => .done ⟨1, 2⟩ ((t.setR8 .a v).setHl (s.hl + step))

/-- `LD (HL+),A` and `LD (HL-),A`: HL is stepped after the store (R143, R144). -/
def ldHLAStep (step : Word) (s : State) : Host.Outcome State Fault Refusal :=
  finish <| (memWrite s s.hl s.a).bind fun _ t => .done ⟨1, 2⟩ (t.setHl (s.hl + step))

/-- `LD rr,d16` (R151). -/
def ldWord (r : Reg16) (w : Word) (s : State) : Host.Outcome State Fault Refusal :=
  finish <| .done ⟨3, 3⟩ (s.setR16 r w)

/-- `LD (a16),SP` (R152). -/
def ldWordSp (a : Word) (s : State) : Host.Outcome State Fault Refusal :=
  finish <| (memWrite16 s a s.sp).bind fun _ t => .done ⟨3, 5⟩ t

/-- `LD SP,HL` (R153). -/
def ldSpHL (s : State) : Host.Outcome State Fault Refusal :=
  finish <| .done ⟨1, 2⟩ (s.setSp s.hl)

/-- `PUSH rr` (R154). -/
def pushReg (r : StackReg) (s : State) : Host.Outcome State Fault Refusal :=
  finish <| (push16 s (s.getStack r)).bind fun _ t => .done ⟨1, 4⟩ t

/-- `POP rr` (R155, R156). -/
def popReg (r : StackReg) (s : State) : Host.Outcome State Fault Refusal :=
  finish <| (pop16 s).bind fun v t => .done ⟨1, 3⟩ (t.setStack r v)

/-! ## One meaning per row of spec/opcode_table.json -/

/-- `LD BC,d16` (R151). -/
def execLd_BC_d16 (w : Word) (s : State) : Host.Outcome State Fault Refusal := ldWord .bc w s

/-- `LD (BC),A` (R139). -/
def execLd_atBC_A (s : State) : Host.Outcome State Fault Refusal := ldDirectA 1 2 s.bc s

/-- `LD B,d8` (R135). -/
def execLd_B_d8 (n : Byte) (s : State) : Host.Outcome State Fault Refusal := ldLocImm (.reg .b) n s

/-- `LD (a16),SP` (R152). -/
def execLd_atA16_SP (a : Word) (s : State) : Host.Outcome State Fault Refusal := ldWordSp a s

/-- `LD A,(BC)` (R137). -/
def execLd_A_atBC (s : State) : Host.Outcome State Fault Refusal := ldADirect 1 2 s.bc s

/-- `LD C,d8` (R135). -/
def execLd_C_d8 (n : Byte) (s : State) : Host.Outcome State Fault Refusal := ldLocImm (.reg .c) n s

/-- `LD DE,d16` (R151). -/
def execLd_DE_d16 (w : Word) (s : State) : Host.Outcome State Fault Refusal := ldWord .de w s

/-- `LD (DE),A` (R140). -/
def execLd_atDE_A (s : State) : Host.Outcome State Fault Refusal := ldDirectA 1 2 s.de s

/-- `LD D,d8` (R135). -/
def execLd_D_d8 (n : Byte) (s : State) : Host.Outcome State Fault Refusal := ldLocImm (.reg .d) n s

/-- `LD A,(DE)` (R138). -/
def execLd_A_atDE (s : State) : Host.Outcome State Fault Refusal := ldADirect 1 2 s.de s

/-- `LD E,d8` (R135). -/
def execLd_E_d8 (n : Byte) (s : State) : Host.Outcome State Fault Refusal := ldLocImm (.reg .e) n s

/-- `LD HL,d16` (R151). -/
def execLd_HL_d16 (w : Word) (s : State) : Host.Outcome State Fault Refusal := ldWord .hl w s

/-- `LD (HL+),A` (R143). -/
def execLd_atHLi_A (s : State) : Host.Outcome State Fault Refusal := ldHLAStep 1 s

/-- `LD H,d8` (R135). -/
def execLd_H_d8 (n : Byte) (s : State) : Host.Outcome State Fault Refusal := ldLocImm (.reg .h) n s

/-- `LD A,(HL+)` (R141). -/
def execLd_A_atHLi (s : State) : Host.Outcome State Fault Refusal := ldAHLStep 1 s

/-- `LD L,d8` (R135). -/
def execLd_L_d8 (n : Byte) (s : State) : Host.Outcome State Fault Refusal := ldLocImm (.reg .l) n s

/-- `LD SP,d16` (R151). -/
def execLd_SP_d16 (w : Word) (s : State) : Host.Outcome State Fault Refusal := ldWord .sp w s

/-- `LD (HL-),A` (R144). -/
def execLd_atHLd_A (s : State) : Host.Outcome State Fault Refusal := ldHLAStep (-1) s

/-- `LD (HL),d8` (R136). -/
def execLd_atHL_d8 (n : Byte) (s : State) : Host.Outcome State Fault Refusal := ldLocImm .atHL n s

/-- `LD A,(HL-)` (R142). -/
def execLd_A_atHLd (s : State) : Host.Outcome State Fault Refusal := ldAHLStep (-1) s

/-- `LD A,d8` (R135). -/
def execLd_A_d8 (n : Byte) (s : State) : Host.Outcome State Fault Refusal := ldLocImm (.reg .a) n s

/-- `LD B,B` (R132). -/
def execLd_B_B (s : State) : Host.Outcome State Fault Refusal := ldLoc (.reg .b) (.reg .b) s
/-- `LD B,C` (R132). -/
def execLd_B_C (s : State) : Host.Outcome State Fault Refusal := ldLoc (.reg .b) (.reg .c) s
/-- `LD B,D` (R132). -/
def execLd_B_D (s : State) : Host.Outcome State Fault Refusal := ldLoc (.reg .b) (.reg .d) s
/-- `LD B,E` (R132). -/
def execLd_B_E (s : State) : Host.Outcome State Fault Refusal := ldLoc (.reg .b) (.reg .e) s
/-- `LD B,H` (R132). -/
def execLd_B_H (s : State) : Host.Outcome State Fault Refusal := ldLoc (.reg .b) (.reg .h) s
/-- `LD B,L` (R132). -/
def execLd_B_L (s : State) : Host.Outcome State Fault Refusal := ldLoc (.reg .b) (.reg .l) s

/-- `LD B,(HL)` (R133). -/
def execLd_B_atHL (s : State) : Host.Outcome State Fault Refusal := ldLoc (.reg .b) .atHL s

/-- `LD B,A` (R132). -/
def execLd_B_A (s : State) : Host.Outcome State Fault Refusal := ldLoc (.reg .b) (.reg .a) s
/-- `LD C,B` (R132). -/
def execLd_C_B (s : State) : Host.Outcome State Fault Refusal := ldLoc (.reg .c) (.reg .b) s
/-- `LD C,C` (R132). -/
def execLd_C_C (s : State) : Host.Outcome State Fault Refusal := ldLoc (.reg .c) (.reg .c) s
/-- `LD C,D` (R132). -/
def execLd_C_D (s : State) : Host.Outcome State Fault Refusal := ldLoc (.reg .c) (.reg .d) s
/-- `LD C,E` (R132). -/
def execLd_C_E (s : State) : Host.Outcome State Fault Refusal := ldLoc (.reg .c) (.reg .e) s
/-- `LD C,H` (R132). -/
def execLd_C_H (s : State) : Host.Outcome State Fault Refusal := ldLoc (.reg .c) (.reg .h) s
/-- `LD C,L` (R132). -/
def execLd_C_L (s : State) : Host.Outcome State Fault Refusal := ldLoc (.reg .c) (.reg .l) s

/-- `LD C,(HL)` (R133). -/
def execLd_C_atHL (s : State) : Host.Outcome State Fault Refusal := ldLoc (.reg .c) .atHL s

/-- `LD C,A` (R132). -/
def execLd_C_A (s : State) : Host.Outcome State Fault Refusal := ldLoc (.reg .c) (.reg .a) s
/-- `LD D,B` (R132). -/
def execLd_D_B (s : State) : Host.Outcome State Fault Refusal := ldLoc (.reg .d) (.reg .b) s
/-- `LD D,C` (R132). -/
def execLd_D_C (s : State) : Host.Outcome State Fault Refusal := ldLoc (.reg .d) (.reg .c) s
/-- `LD D,D` (R132). -/
def execLd_D_D (s : State) : Host.Outcome State Fault Refusal := ldLoc (.reg .d) (.reg .d) s
/-- `LD D,E` (R132). -/
def execLd_D_E (s : State) : Host.Outcome State Fault Refusal := ldLoc (.reg .d) (.reg .e) s
/-- `LD D,H` (R132). -/
def execLd_D_H (s : State) : Host.Outcome State Fault Refusal := ldLoc (.reg .d) (.reg .h) s
/-- `LD D,L` (R132). -/
def execLd_D_L (s : State) : Host.Outcome State Fault Refusal := ldLoc (.reg .d) (.reg .l) s

/-- `LD D,(HL)` (R133). -/
def execLd_D_atHL (s : State) : Host.Outcome State Fault Refusal := ldLoc (.reg .d) .atHL s

/-- `LD D,A` (R132). -/
def execLd_D_A (s : State) : Host.Outcome State Fault Refusal := ldLoc (.reg .d) (.reg .a) s
/-- `LD E,B` (R132). -/
def execLd_E_B (s : State) : Host.Outcome State Fault Refusal := ldLoc (.reg .e) (.reg .b) s
/-- `LD E,C` (R132). -/
def execLd_E_C (s : State) : Host.Outcome State Fault Refusal := ldLoc (.reg .e) (.reg .c) s
/-- `LD E,D` (R132). -/
def execLd_E_D (s : State) : Host.Outcome State Fault Refusal := ldLoc (.reg .e) (.reg .d) s
/-- `LD E,E` (R132). -/
def execLd_E_E (s : State) : Host.Outcome State Fault Refusal := ldLoc (.reg .e) (.reg .e) s
/-- `LD E,H` (R132). -/
def execLd_E_H (s : State) : Host.Outcome State Fault Refusal := ldLoc (.reg .e) (.reg .h) s
/-- `LD E,L` (R132). -/
def execLd_E_L (s : State) : Host.Outcome State Fault Refusal := ldLoc (.reg .e) (.reg .l) s

/-- `LD E,(HL)` (R133). -/
def execLd_E_atHL (s : State) : Host.Outcome State Fault Refusal := ldLoc (.reg .e) .atHL s

/-- `LD E,A` (R132). -/
def execLd_E_A (s : State) : Host.Outcome State Fault Refusal := ldLoc (.reg .e) (.reg .a) s
/-- `LD H,B` (R132). -/
def execLd_H_B (s : State) : Host.Outcome State Fault Refusal := ldLoc (.reg .h) (.reg .b) s
/-- `LD H,C` (R132). -/
def execLd_H_C (s : State) : Host.Outcome State Fault Refusal := ldLoc (.reg .h) (.reg .c) s
/-- `LD H,D` (R132). -/
def execLd_H_D (s : State) : Host.Outcome State Fault Refusal := ldLoc (.reg .h) (.reg .d) s
/-- `LD H,E` (R132). -/
def execLd_H_E (s : State) : Host.Outcome State Fault Refusal := ldLoc (.reg .h) (.reg .e) s
/-- `LD H,H` (R132). -/
def execLd_H_H (s : State) : Host.Outcome State Fault Refusal := ldLoc (.reg .h) (.reg .h) s
/-- `LD H,L` (R132). -/
def execLd_H_L (s : State) : Host.Outcome State Fault Refusal := ldLoc (.reg .h) (.reg .l) s

/-- `LD H,(HL)` (R133). -/
def execLd_H_atHL (s : State) : Host.Outcome State Fault Refusal := ldLoc (.reg .h) .atHL s

/-- `LD H,A` (R132). -/
def execLd_H_A (s : State) : Host.Outcome State Fault Refusal := ldLoc (.reg .h) (.reg .a) s
/-- `LD L,B` (R132). -/
def execLd_L_B (s : State) : Host.Outcome State Fault Refusal := ldLoc (.reg .l) (.reg .b) s
/-- `LD L,C` (R132). -/
def execLd_L_C (s : State) : Host.Outcome State Fault Refusal := ldLoc (.reg .l) (.reg .c) s
/-- `LD L,D` (R132). -/
def execLd_L_D (s : State) : Host.Outcome State Fault Refusal := ldLoc (.reg .l) (.reg .d) s
/-- `LD L,E` (R132). -/
def execLd_L_E (s : State) : Host.Outcome State Fault Refusal := ldLoc (.reg .l) (.reg .e) s
/-- `LD L,H` (R132). -/
def execLd_L_H (s : State) : Host.Outcome State Fault Refusal := ldLoc (.reg .l) (.reg .h) s
/-- `LD L,L` (R132). -/
def execLd_L_L (s : State) : Host.Outcome State Fault Refusal := ldLoc (.reg .l) (.reg .l) s

/-- `LD L,(HL)` (R133). -/
def execLd_L_atHL (s : State) : Host.Outcome State Fault Refusal := ldLoc (.reg .l) .atHL s

/-- `LD L,A` (R132). -/
def execLd_L_A (s : State) : Host.Outcome State Fault Refusal := ldLoc (.reg .l) (.reg .a) s

/-- `LD (HL),B` (R134). -/
def execLd_atHL_B (s : State) : Host.Outcome State Fault Refusal := ldLoc .atHL (.reg .b) s
/-- `LD (HL),C` (R134). -/
def execLd_atHL_C (s : State) : Host.Outcome State Fault Refusal := ldLoc .atHL (.reg .c) s
/-- `LD (HL),D` (R134). -/
def execLd_atHL_D (s : State) : Host.Outcome State Fault Refusal := ldLoc .atHL (.reg .d) s
/-- `LD (HL),E` (R134). -/
def execLd_atHL_E (s : State) : Host.Outcome State Fault Refusal := ldLoc .atHL (.reg .e) s
/-- `LD (HL),H` (R134). -/
def execLd_atHL_H (s : State) : Host.Outcome State Fault Refusal := ldLoc .atHL (.reg .h) s
/-- `LD (HL),L` (R134). -/
def execLd_atHL_L (s : State) : Host.Outcome State Fault Refusal := ldLoc .atHL (.reg .l) s
/-- `LD (HL),A` (R134). -/
def execLd_atHL_A (s : State) : Host.Outcome State Fault Refusal := ldLoc .atHL (.reg .a) s

/-- `LD A,B` (R132). -/
def execLd_A_B (s : State) : Host.Outcome State Fault Refusal := ldLoc (.reg .a) (.reg .b) s
/-- `LD A,C` (R132). -/
def execLd_A_C (s : State) : Host.Outcome State Fault Refusal := ldLoc (.reg .a) (.reg .c) s
/-- `LD A,D` (R132). -/
def execLd_A_D (s : State) : Host.Outcome State Fault Refusal := ldLoc (.reg .a) (.reg .d) s
/-- `LD A,E` (R132). -/
def execLd_A_E (s : State) : Host.Outcome State Fault Refusal := ldLoc (.reg .a) (.reg .e) s
/-- `LD A,H` (R132). -/
def execLd_A_H (s : State) : Host.Outcome State Fault Refusal := ldLoc (.reg .a) (.reg .h) s
/-- `LD A,L` (R132). -/
def execLd_A_L (s : State) : Host.Outcome State Fault Refusal := ldLoc (.reg .a) (.reg .l) s

/-- `LD A,(HL)` (R133). -/
def execLd_A_atHL (s : State) : Host.Outcome State Fault Refusal := ldLoc (.reg .a) .atHL s

/-- `LD A,A` (R132). -/
def execLd_A_A (s : State) : Host.Outcome State Fault Refusal := ldLoc (.reg .a) (.reg .a) s

/-- `POP BC` (R155). -/
def execPop_BC (s : State) : Host.Outcome State Fault Refusal := popReg .bc s

/-- `PUSH BC` (R154). -/
def execPush_BC (s : State) : Host.Outcome State Fault Refusal := pushReg .bc s

/-- `POP DE` (R155). -/
def execPop_DE (s : State) : Host.Outcome State Fault Refusal := popReg .de s

/-- `PUSH DE` (R154). -/
def execPush_DE (s : State) : Host.Outcome State Fault Refusal := pushReg .de s

/-- `LDH (a8),A` (R148). -/
def execLdh_atA8_A (n : Byte) (s : State) : Host.Outcome State Fault Refusal := ldDirectA 2 3 (highPage n) s

/-- `POP HL` (R155). -/
def execPop_HL (s : State) : Host.Outcome State Fault Refusal := popReg .hl s

/-- `LD (C),A` (R150). -/
def execLd_atC_A (s : State) : Host.Outcome State Fault Refusal := ldDirectA 1 2 (highPage s.c) s

/-- `PUSH HL` (R154). -/
def execPush_HL (s : State) : Host.Outcome State Fault Refusal := pushReg .hl s

/-- `LD (a16),A` (R146). -/
def execLd_atA16_A (a : Word) (s : State) : Host.Outcome State Fault Refusal := ldDirectA 3 4 a s

/-- `LDH A,(a8)` (R147). -/
def execLdh_A_atA8 (n : Byte) (s : State) : Host.Outcome State Fault Refusal := ldADirect 2 3 (highPage n) s

/-- `POP AF` (R156). -/
def execPop_AF (s : State) : Host.Outcome State Fault Refusal := popReg .af s

/-- `LD A,(C)` (R149). -/
def execLd_A_atC (s : State) : Host.Outcome State Fault Refusal := ldADirect 1 2 (highPage s.c) s

/-- `PUSH AF` (R154). -/
def execPush_AF (s : State) : Host.Outcome State Fault Refusal := pushReg .af s

/-- `LD SP,HL` (R153). -/
def execLd_SP_HL (s : State) : Host.Outcome State Fault Refusal := ldSpHL s

/-- `LD A,(a16)` (R145). -/
def execLd_A_atA16 (a : Word) (s : State) : Host.Outcome State Fault Refusal := ldADirect 3 4 a s

end Sys2Proof.Machine
end

