-- ==== Sys2Proof/Machine/Rotates.lean ====
section
/-! DEFINITION. Rotates, shifts, swap and bit operations (spec/44_rotate_shift_bit.md R215 to R242): the shared operations, the extended instruction a second byte selects, then one meaning per row. -/

namespace Sys2Proof.Machine

/-- The accumulator rotates (R215 to R219). -/
def accRotate (op : AccRot) (s : State) : Host.Outcome State Fault Refusal :=
  let r := accRotCompute op s.f.c s.a
  finish <| .done ⟨1, 1⟩ ((s.setR8 .a r.1).setF (accRotFlags s.params.accRotZ r))

/-- An extended shift: one read, one write, then the flags (R220 to R236). -/
def shiftLoc (op : ShiftOp) (o : Operand8) (s : State) : Host.Outcome State Fault Refusal :=
  finish <| (loadLoc (loc s o) s).bind fun v t =>
    let r := shiftCompute op t.f.c v
    (storeLoc (loc s o) r.1 t).bind fun _ u => .done ⟨2, byForm o 2 4⟩ (u.setF (shiftFlags r))

/-- `BIT b,r8[z]`: no write (R237, R238). -/
def bitLoc (b : Fin 8) (o : Operand8) (s : State) : Host.Outcome State Fault Refusal :=
  finish <| (loadLoc (loc s o) s).bind fun v t => .done ⟨2, byForm o 2 3⟩ (t.setF (bitFlags t.f b v))

/-- `RES b,r8[z]`: written even where the bit was clear (R239, R240). -/
def resLoc (b : Fin 8) (o : Operand8) (s : State) : Host.Outcome State Fault Refusal :=
  finish <| (loadLoc (loc s o) s).bind fun v t =>
    (storeLoc (loc s o) (resetBit b v) t).bind fun _ u => .done ⟨2, byForm o 2 4⟩ u

/-- `SET b,r8[z]` (R241, R242). -/
def setLoc (b : Fin 8) (o : Operand8) (s : State) : Host.Outcome State Fault Refusal :=
  finish <| (loadLoc (loc s o) s).bind fun v t =>
    (storeLoc (loc s o) (setBit b v) t).bind fun _ u => .done ⟨2, byForm o 2 4⟩ u

/-- The extended instruction a second byte selects, by its fields (30_encoding.md R98, R101). -/
def runExtended (cb : Byte) (s : State) : Host.Outcome State Fault Refusal :=
  match fieldX cb with
  | 0 => shiftLoc (shiftOp (fieldY cb)) (r8 (fieldZ cb)) s
  | 1 => bitLoc (fieldY cb) (r8 (fieldZ cb)) s
  | 2 => resLoc (fieldY cb) (r8 (fieldZ cb)) s
  | 3 => setLoc (fieldY cb) (r8 (fieldZ cb)) s

/-! ## One meaning per row of spec/opcode_table.json -/

/-- `RLCA` (R216). -/
def execRlca (s : State) : Host.Outcome State Fault Refusal := accRotate .rlca s

/-- `RRCA` (R217). -/
def execRrca (s : State) : Host.Outcome State Fault Refusal := accRotate .rrca s

/-- `RLA` (R218). -/
def execRla (s : State) : Host.Outcome State Fault Refusal := accRotate .rla s

/-- `RRA` (R219). -/
def execRra (s : State) : Host.Outcome State Fault Refusal := accRotate .rra s

/-- `RLC B` (R221). -/
def execRlc_B (s : State) : Host.Outcome State Fault Refusal := shiftLoc .rlc (.reg .b) s
/-- `RLC C` (R221). -/
def execRlc_C (s : State) : Host.Outcome State Fault Refusal := shiftLoc .rlc (.reg .c) s
/-- `RLC D` (R221). -/
def execRlc_D (s : State) : Host.Outcome State Fault Refusal := shiftLoc .rlc (.reg .d) s
/-- `RLC E` (R221). -/
def execRlc_E (s : State) : Host.Outcome State Fault Refusal := shiftLoc .rlc (.reg .e) s
/-- `RLC H` (R221). -/
def execRlc_H (s : State) : Host.Outcome State Fault Refusal := shiftLoc .rlc (.reg .h) s
/-- `RLC L` (R221). -/
def execRlc_L (s : State) : Host.Outcome State Fault Refusal := shiftLoc .rlc (.reg .l) s

/-- `RLC (HL)` (R222). -/
def execRlc_atHL (s : State) : Host.Outcome State Fault Refusal := shiftLoc .rlc .atHL s

/-- `RLC A` (R221). -/
def execRlc_A (s : State) : Host.Outcome State Fault Refusal := shiftLoc .rlc (.reg .a) s

/-- `RRC B` (R223). -/
def execRrc_B (s : State) : Host.Outcome State Fault Refusal := shiftLoc .rrc (.reg .b) s
/-- `RRC C` (R223). -/
def execRrc_C (s : State) : Host.Outcome State Fault Refusal := shiftLoc .rrc (.reg .c) s
/-- `RRC D` (R223). -/
def execRrc_D (s : State) : Host.Outcome State Fault Refusal := shiftLoc .rrc (.reg .d) s
/-- `RRC E` (R223). -/
def execRrc_E (s : State) : Host.Outcome State Fault Refusal := shiftLoc .rrc (.reg .e) s
/-- `RRC H` (R223). -/
def execRrc_H (s : State) : Host.Outcome State Fault Refusal := shiftLoc .rrc (.reg .h) s
/-- `RRC L` (R223). -/
def execRrc_L (s : State) : Host.Outcome State Fault Refusal := shiftLoc .rrc (.reg .l) s

/-- `RRC (HL)` (R224). -/
def execRrc_atHL (s : State) : Host.Outcome State Fault Refusal := shiftLoc .rrc .atHL s

/-- `RRC A` (R223). -/
def execRrc_A (s : State) : Host.Outcome State Fault Refusal := shiftLoc .rrc (.reg .a) s

/-- `RL B` (R225). -/
def execRl_B (s : State) : Host.Outcome State Fault Refusal := shiftLoc .rl (.reg .b) s
/-- `RL C` (R225). -/
def execRl_C (s : State) : Host.Outcome State Fault Refusal := shiftLoc .rl (.reg .c) s
/-- `RL D` (R225). -/
def execRl_D (s : State) : Host.Outcome State Fault Refusal := shiftLoc .rl (.reg .d) s
/-- `RL E` (R225). -/
def execRl_E (s : State) : Host.Outcome State Fault Refusal := shiftLoc .rl (.reg .e) s
/-- `RL H` (R225). -/
def execRl_H (s : State) : Host.Outcome State Fault Refusal := shiftLoc .rl (.reg .h) s
/-- `RL L` (R225). -/
def execRl_L (s : State) : Host.Outcome State Fault Refusal := shiftLoc .rl (.reg .l) s

/-- `RL (HL)` (R226). -/
def execRl_atHL (s : State) : Host.Outcome State Fault Refusal := shiftLoc .rl .atHL s

/-- `RL A` (R225). -/
def execRl_A (s : State) : Host.Outcome State Fault Refusal := shiftLoc .rl (.reg .a) s

/-- `RR B` (R227). -/
def execRr_B (s : State) : Host.Outcome State Fault Refusal := shiftLoc .rr (.reg .b) s
/-- `RR C` (R227). -/
def execRr_C (s : State) : Host.Outcome State Fault Refusal := shiftLoc .rr (.reg .c) s
/-- `RR D` (R227). -/
def execRr_D (s : State) : Host.Outcome State Fault Refusal := shiftLoc .rr (.reg .d) s
/-- `RR E` (R227). -/
def execRr_E (s : State) : Host.Outcome State Fault Refusal := shiftLoc .rr (.reg .e) s
/-- `RR H` (R227). -/
def execRr_H (s : State) : Host.Outcome State Fault Refusal := shiftLoc .rr (.reg .h) s
/-- `RR L` (R227). -/
def execRr_L (s : State) : Host.Outcome State Fault Refusal := shiftLoc .rr (.reg .l) s

/-- `RR (HL)` (R228). -/
def execRr_atHL (s : State) : Host.Outcome State Fault Refusal := shiftLoc .rr .atHL s

/-- `RR A` (R227). -/
def execRr_A (s : State) : Host.Outcome State Fault Refusal := shiftLoc .rr (.reg .a) s

/-- `SLA B` (R229). -/
def execSla_B (s : State) : Host.Outcome State Fault Refusal := shiftLoc .sla (.reg .b) s
/-- `SLA C` (R229). -/
def execSla_C (s : State) : Host.Outcome State Fault Refusal := shiftLoc .sla (.reg .c) s
/-- `SLA D` (R229). -/
def execSla_D (s : State) : Host.Outcome State Fault Refusal := shiftLoc .sla (.reg .d) s
/-- `SLA E` (R229). -/
def execSla_E (s : State) : Host.Outcome State Fault Refusal := shiftLoc .sla (.reg .e) s
/-- `SLA H` (R229). -/
def execSla_H (s : State) : Host.Outcome State Fault Refusal := shiftLoc .sla (.reg .h) s
/-- `SLA L` (R229). -/
def execSla_L (s : State) : Host.Outcome State Fault Refusal := shiftLoc .sla (.reg .l) s

/-- `SLA (HL)` (R230). -/
def execSla_atHL (s : State) : Host.Outcome State Fault Refusal := shiftLoc .sla .atHL s

/-- `SLA A` (R229). -/
def execSla_A (s : State) : Host.Outcome State Fault Refusal := shiftLoc .sla (.reg .a) s

/-- `SRA B` (R231). -/
def execSra_B (s : State) : Host.Outcome State Fault Refusal := shiftLoc .sra (.reg .b) s
/-- `SRA C` (R231). -/
def execSra_C (s : State) : Host.Outcome State Fault Refusal := shiftLoc .sra (.reg .c) s
/-- `SRA D` (R231). -/
def execSra_D (s : State) : Host.Outcome State Fault Refusal := shiftLoc .sra (.reg .d) s
/-- `SRA E` (R231). -/
def execSra_E (s : State) : Host.Outcome State Fault Refusal := shiftLoc .sra (.reg .e) s
/-- `SRA H` (R231). -/
def execSra_H (s : State) : Host.Outcome State Fault Refusal := shiftLoc .sra (.reg .h) s
/-- `SRA L` (R231). -/
def execSra_L (s : State) : Host.Outcome State Fault Refusal := shiftLoc .sra (.reg .l) s

/-- `SRA (HL)` (R232). -/
def execSra_atHL (s : State) : Host.Outcome State Fault Refusal := shiftLoc .sra .atHL s

/-- `SRA A` (R231). -/
def execSra_A (s : State) : Host.Outcome State Fault Refusal := shiftLoc .sra (.reg .a) s

/-- `SWAP B` (R233). -/
def execSwap_B (s : State) : Host.Outcome State Fault Refusal := shiftLoc .swap (.reg .b) s
/-- `SWAP C` (R233). -/
def execSwap_C (s : State) : Host.Outcome State Fault Refusal := shiftLoc .swap (.reg .c) s
/-- `SWAP D` (R233). -/
def execSwap_D (s : State) : Host.Outcome State Fault Refusal := shiftLoc .swap (.reg .d) s
/-- `SWAP E` (R233). -/
def execSwap_E (s : State) : Host.Outcome State Fault Refusal := shiftLoc .swap (.reg .e) s
/-- `SWAP H` (R233). -/
def execSwap_H (s : State) : Host.Outcome State Fault Refusal := shiftLoc .swap (.reg .h) s
/-- `SWAP L` (R233). -/
def execSwap_L (s : State) : Host.Outcome State Fault Refusal := shiftLoc .swap (.reg .l) s

/-- `SWAP (HL)` (R234). -/
def execSwap_atHL (s : State) : Host.Outcome State Fault Refusal := shiftLoc .swap .atHL s

/-- `SWAP A` (R233). -/
def execSwap_A (s : State) : Host.Outcome State Fault Refusal := shiftLoc .swap (.reg .a) s

/-- `SRL B` (R235). -/
def execSrl_B (s : State) : Host.Outcome State Fault Refusal := shiftLoc .srl (.reg .b) s
/-- `SRL C` (R235). -/
def execSrl_C (s : State) : Host.Outcome State Fault Refusal := shiftLoc .srl (.reg .c) s
/-- `SRL D` (R235). -/
def execSrl_D (s : State) : Host.Outcome State Fault Refusal := shiftLoc .srl (.reg .d) s
/-- `SRL E` (R235). -/
def execSrl_E (s : State) : Host.Outcome State Fault Refusal := shiftLoc .srl (.reg .e) s
/-- `SRL H` (R235). -/
def execSrl_H (s : State) : Host.Outcome State Fault Refusal := shiftLoc .srl (.reg .h) s
/-- `SRL L` (R235). -/
def execSrl_L (s : State) : Host.Outcome State Fault Refusal := shiftLoc .srl (.reg .l) s

/-- `SRL (HL)` (R236). -/
def execSrl_atHL (s : State) : Host.Outcome State Fault Refusal := shiftLoc .srl .atHL s

/-- `SRL A` (R235). -/
def execSrl_A (s : State) : Host.Outcome State Fault Refusal := shiftLoc .srl (.reg .a) s

/-- `BIT 0,B` (R237). -/
def execBit_0_B (s : State) : Host.Outcome State Fault Refusal := bitLoc 0 (.reg .b) s
/-- `BIT 0,C` (R237). -/
def execBit_0_C (s : State) : Host.Outcome State Fault Refusal := bitLoc 0 (.reg .c) s
/-- `BIT 0,D` (R237). -/
def execBit_0_D (s : State) : Host.Outcome State Fault Refusal := bitLoc 0 (.reg .d) s
/-- `BIT 0,E` (R237). -/
def execBit_0_E (s : State) : Host.Outcome State Fault Refusal := bitLoc 0 (.reg .e) s
/-- `BIT 0,H` (R237). -/
def execBit_0_H (s : State) : Host.Outcome State Fault Refusal := bitLoc 0 (.reg .h) s
/-- `BIT 0,L` (R237). -/
def execBit_0_L (s : State) : Host.Outcome State Fault Refusal := bitLoc 0 (.reg .l) s

/-- `BIT 0,(HL)` (R238). -/
def execBit_0_atHL (s : State) : Host.Outcome State Fault Refusal := bitLoc 0 .atHL s

/-- `BIT 0,A` (R237). -/
def execBit_0_A (s : State) : Host.Outcome State Fault Refusal := bitLoc 0 (.reg .a) s
/-- `BIT 1,B` (R237). -/
def execBit_1_B (s : State) : Host.Outcome State Fault Refusal := bitLoc 1 (.reg .b) s
/-- `BIT 1,C` (R237). -/
def execBit_1_C (s : State) : Host.Outcome State Fault Refusal := bitLoc 1 (.reg .c) s
/-- `BIT 1,D` (R237). -/
def execBit_1_D (s : State) : Host.Outcome State Fault Refusal := bitLoc 1 (.reg .d) s
/-- `BIT 1,E` (R237). -/
def execBit_1_E (s : State) : Host.Outcome State Fault Refusal := bitLoc 1 (.reg .e) s
/-- `BIT 1,H` (R237). -/
def execBit_1_H (s : State) : Host.Outcome State Fault Refusal := bitLoc 1 (.reg .h) s
/-- `BIT 1,L` (R237). -/
def execBit_1_L (s : State) : Host.Outcome State Fault Refusal := bitLoc 1 (.reg .l) s

/-- `BIT 1,(HL)` (R238). -/
def execBit_1_atHL (s : State) : Host.Outcome State Fault Refusal := bitLoc 1 .atHL s

/-- `BIT 1,A` (R237). -/
def execBit_1_A (s : State) : Host.Outcome State Fault Refusal := bitLoc 1 (.reg .a) s
/-- `BIT 2,B` (R237). -/
def execBit_2_B (s : State) : Host.Outcome State Fault Refusal := bitLoc 2 (.reg .b) s
/-- `BIT 2,C` (R237). -/
def execBit_2_C (s : State) : Host.Outcome State Fault Refusal := bitLoc 2 (.reg .c) s
/-- `BIT 2,D` (R237). -/
def execBit_2_D (s : State) : Host.Outcome State Fault Refusal := bitLoc 2 (.reg .d) s
/-- `BIT 2,E` (R237). -/
def execBit_2_E (s : State) : Host.Outcome State Fault Refusal := bitLoc 2 (.reg .e) s
/-- `BIT 2,H` (R237). -/
def execBit_2_H (s : State) : Host.Outcome State Fault Refusal := bitLoc 2 (.reg .h) s
/-- `BIT 2,L` (R237). -/
def execBit_2_L (s : State) : Host.Outcome State Fault Refusal := bitLoc 2 (.reg .l) s

/-- `BIT 2,(HL)` (R238). -/
def execBit_2_atHL (s : State) : Host.Outcome State Fault Refusal := bitLoc 2 .atHL s

/-- `BIT 2,A` (R237). -/
def execBit_2_A (s : State) : Host.Outcome State Fault Refusal := bitLoc 2 (.reg .a) s
/-- `BIT 3,B` (R237). -/
def execBit_3_B (s : State) : Host.Outcome State Fault Refusal := bitLoc 3 (.reg .b) s
/-- `BIT 3,C` (R237). -/
def execBit_3_C (s : State) : Host.Outcome State Fault Refusal := bitLoc 3 (.reg .c) s
/-- `BIT 3,D` (R237). -/
def execBit_3_D (s : State) : Host.Outcome State Fault Refusal := bitLoc 3 (.reg .d) s
/-- `BIT 3,E` (R237). -/
def execBit_3_E (s : State) : Host.Outcome State Fault Refusal := bitLoc 3 (.reg .e) s
/-- `BIT 3,H` (R237). -/
def execBit_3_H (s : State) : Host.Outcome State Fault Refusal := bitLoc 3 (.reg .h) s
/-- `BIT 3,L` (R237). -/
def execBit_3_L (s : State) : Host.Outcome State Fault Refusal := bitLoc 3 (.reg .l) s

/-- `BIT 3,(HL)` (R238). -/
def execBit_3_atHL (s : State) : Host.Outcome State Fault Refusal := bitLoc 3 .atHL s

/-- `BIT 3,A` (R237). -/
def execBit_3_A (s : State) : Host.Outcome State Fault Refusal := bitLoc 3 (.reg .a) s
/-- `BIT 4,B` (R237). -/
def execBit_4_B (s : State) : Host.Outcome State Fault Refusal := bitLoc 4 (.reg .b) s
/-- `BIT 4,C` (R237). -/
def execBit_4_C (s : State) : Host.Outcome State Fault Refusal := bitLoc 4 (.reg .c) s
/-- `BIT 4,D` (R237). -/
def execBit_4_D (s : State) : Host.Outcome State Fault Refusal := bitLoc 4 (.reg .d) s
/-- `BIT 4,E` (R237). -/
def execBit_4_E (s : State) : Host.Outcome State Fault Refusal := bitLoc 4 (.reg .e) s
/-- `BIT 4,H` (R237). -/
def execBit_4_H (s : State) : Host.Outcome State Fault Refusal := bitLoc 4 (.reg .h) s
/-- `BIT 4,L` (R237). -/
def execBit_4_L (s : State) : Host.Outcome State Fault Refusal := bitLoc 4 (.reg .l) s

/-- `BIT 4,(HL)` (R238). -/
def execBit_4_atHL (s : State) : Host.Outcome State Fault Refusal := bitLoc 4 .atHL s

/-- `BIT 4,A` (R237). -/
def execBit_4_A (s : State) : Host.Outcome State Fault Refusal := bitLoc 4 (.reg .a) s
/-- `BIT 5,B` (R237). -/
def execBit_5_B (s : State) : Host.Outcome State Fault Refusal := bitLoc 5 (.reg .b) s
/-- `BIT 5,C` (R237). -/
def execBit_5_C (s : State) : Host.Outcome State Fault Refusal := bitLoc 5 (.reg .c) s
/-- `BIT 5,D` (R237). -/
def execBit_5_D (s : State) : Host.Outcome State Fault Refusal := bitLoc 5 (.reg .d) s
/-- `BIT 5,E` (R237). -/
def execBit_5_E (s : State) : Host.Outcome State Fault Refusal := bitLoc 5 (.reg .e) s
/-- `BIT 5,H` (R237). -/
def execBit_5_H (s : State) : Host.Outcome State Fault Refusal := bitLoc 5 (.reg .h) s
/-- `BIT 5,L` (R237). -/
def execBit_5_L (s : State) : Host.Outcome State Fault Refusal := bitLoc 5 (.reg .l) s

/-- `BIT 5,(HL)` (R238). -/
def execBit_5_atHL (s : State) : Host.Outcome State Fault Refusal := bitLoc 5 .atHL s

/-- `BIT 5,A` (R237). -/
def execBit_5_A (s : State) : Host.Outcome State Fault Refusal := bitLoc 5 (.reg .a) s
/-- `BIT 6,B` (R237). -/
def execBit_6_B (s : State) : Host.Outcome State Fault Refusal := bitLoc 6 (.reg .b) s
/-- `BIT 6,C` (R237). -/
def execBit_6_C (s : State) : Host.Outcome State Fault Refusal := bitLoc 6 (.reg .c) s
/-- `BIT 6,D` (R237). -/
def execBit_6_D (s : State) : Host.Outcome State Fault Refusal := bitLoc 6 (.reg .d) s
/-- `BIT 6,E` (R237). -/
def execBit_6_E (s : State) : Host.Outcome State Fault Refusal := bitLoc 6 (.reg .e) s
/-- `BIT 6,H` (R237). -/
def execBit_6_H (s : State) : Host.Outcome State Fault Refusal := bitLoc 6 (.reg .h) s
/-- `BIT 6,L` (R237). -/
def execBit_6_L (s : State) : Host.Outcome State Fault Refusal := bitLoc 6 (.reg .l) s

/-- `BIT 6,(HL)` (R238). -/
def execBit_6_atHL (s : State) : Host.Outcome State Fault Refusal := bitLoc 6 .atHL s

/-- `BIT 6,A` (R237). -/
def execBit_6_A (s : State) : Host.Outcome State Fault Refusal := bitLoc 6 (.reg .a) s
/-- `BIT 7,B` (R237). -/
def execBit_7_B (s : State) : Host.Outcome State Fault Refusal := bitLoc 7 (.reg .b) s
/-- `BIT 7,C` (R237). -/
def execBit_7_C (s : State) : Host.Outcome State Fault Refusal := bitLoc 7 (.reg .c) s
/-- `BIT 7,D` (R237). -/
def execBit_7_D (s : State) : Host.Outcome State Fault Refusal := bitLoc 7 (.reg .d) s
/-- `BIT 7,E` (R237). -/
def execBit_7_E (s : State) : Host.Outcome State Fault Refusal := bitLoc 7 (.reg .e) s
/-- `BIT 7,H` (R237). -/
def execBit_7_H (s : State) : Host.Outcome State Fault Refusal := bitLoc 7 (.reg .h) s
/-- `BIT 7,L` (R237). -/
def execBit_7_L (s : State) : Host.Outcome State Fault Refusal := bitLoc 7 (.reg .l) s

/-- `BIT 7,(HL)` (R238). -/
def execBit_7_atHL (s : State) : Host.Outcome State Fault Refusal := bitLoc 7 .atHL s

/-- `BIT 7,A` (R237). -/
def execBit_7_A (s : State) : Host.Outcome State Fault Refusal := bitLoc 7 (.reg .a) s

/-- `RES 0,B` (R239). -/
def execRes_0_B (s : State) : Host.Outcome State Fault Refusal := resLoc 0 (.reg .b) s
/-- `RES 0,C` (R239). -/
def execRes_0_C (s : State) : Host.Outcome State Fault Refusal := resLoc 0 (.reg .c) s
/-- `RES 0,D` (R239). -/
def execRes_0_D (s : State) : Host.Outcome State Fault Refusal := resLoc 0 (.reg .d) s
/-- `RES 0,E` (R239). -/
def execRes_0_E (s : State) : Host.Outcome State Fault Refusal := resLoc 0 (.reg .e) s
/-- `RES 0,H` (R239). -/
def execRes_0_H (s : State) : Host.Outcome State Fault Refusal := resLoc 0 (.reg .h) s
/-- `RES 0,L` (R239). -/
def execRes_0_L (s : State) : Host.Outcome State Fault Refusal := resLoc 0 (.reg .l) s

/-- `RES 0,(HL)` (R240). -/
def execRes_0_atHL (s : State) : Host.Outcome State Fault Refusal := resLoc 0 .atHL s

/-- `RES 0,A` (R239). -/
def execRes_0_A (s : State) : Host.Outcome State Fault Refusal := resLoc 0 (.reg .a) s
/-- `RES 1,B` (R239). -/
def execRes_1_B (s : State) : Host.Outcome State Fault Refusal := resLoc 1 (.reg .b) s
/-- `RES 1,C` (R239). -/
def execRes_1_C (s : State) : Host.Outcome State Fault Refusal := resLoc 1 (.reg .c) s
/-- `RES 1,D` (R239). -/
def execRes_1_D (s : State) : Host.Outcome State Fault Refusal := resLoc 1 (.reg .d) s
/-- `RES 1,E` (R239). -/
def execRes_1_E (s : State) : Host.Outcome State Fault Refusal := resLoc 1 (.reg .e) s
/-- `RES 1,H` (R239). -/
def execRes_1_H (s : State) : Host.Outcome State Fault Refusal := resLoc 1 (.reg .h) s
/-- `RES 1,L` (R239). -/
def execRes_1_L (s : State) : Host.Outcome State Fault Refusal := resLoc 1 (.reg .l) s

/-- `RES 1,(HL)` (R240). -/
def execRes_1_atHL (s : State) : Host.Outcome State Fault Refusal := resLoc 1 .atHL s

/-- `RES 1,A` (R239). -/
def execRes_1_A (s : State) : Host.Outcome State Fault Refusal := resLoc 1 (.reg .a) s
/-- `RES 2,B` (R239). -/
def execRes_2_B (s : State) : Host.Outcome State Fault Refusal := resLoc 2 (.reg .b) s
/-- `RES 2,C` (R239). -/
def execRes_2_C (s : State) : Host.Outcome State Fault Refusal := resLoc 2 (.reg .c) s
/-- `RES 2,D` (R239). -/
def execRes_2_D (s : State) : Host.Outcome State Fault Refusal := resLoc 2 (.reg .d) s
/-- `RES 2,E` (R239). -/
def execRes_2_E (s : State) : Host.Outcome State Fault Refusal := resLoc 2 (.reg .e) s
/-- `RES 2,H` (R239). -/
def execRes_2_H (s : State) : Host.Outcome State Fault Refusal := resLoc 2 (.reg .h) s
/-- `RES 2,L` (R239). -/
def execRes_2_L (s : State) : Host.Outcome State Fault Refusal := resLoc 2 (.reg .l) s

/-- `RES 2,(HL)` (R240). -/
def execRes_2_atHL (s : State) : Host.Outcome State Fault Refusal := resLoc 2 .atHL s

/-- `RES 2,A` (R239). -/
def execRes_2_A (s : State) : Host.Outcome State Fault Refusal := resLoc 2 (.reg .a) s
/-- `RES 3,B` (R239). -/
def execRes_3_B (s : State) : Host.Outcome State Fault Refusal := resLoc 3 (.reg .b) s
/-- `RES 3,C` (R239). -/
def execRes_3_C (s : State) : Host.Outcome State Fault Refusal := resLoc 3 (.reg .c) s
/-- `RES 3,D` (R239). -/
def execRes_3_D (s : State) : Host.Outcome State Fault Refusal := resLoc 3 (.reg .d) s
/-- `RES 3,E` (R239). -/
def execRes_3_E (s : State) : Host.Outcome State Fault Refusal := resLoc 3 (.reg .e) s
/-- `RES 3,H` (R239). -/
def execRes_3_H (s : State) : Host.Outcome State Fault Refusal := resLoc 3 (.reg .h) s
/-- `RES 3,L` (R239). -/
def execRes_3_L (s : State) : Host.Outcome State Fault Refusal := resLoc 3 (.reg .l) s

/-- `RES 3,(HL)` (R240). -/
def execRes_3_atHL (s : State) : Host.Outcome State Fault Refusal := resLoc 3 .atHL s

/-- `RES 3,A` (R239). -/
def execRes_3_A (s : State) : Host.Outcome State Fault Refusal := resLoc 3 (.reg .a) s
/-- `RES 4,B` (R239). -/
def execRes_4_B (s : State) : Host.Outcome State Fault Refusal := resLoc 4 (.reg .b) s
/-- `RES 4,C` (R239). -/
def execRes_4_C (s : State) : Host.Outcome State Fault Refusal := resLoc 4 (.reg .c) s
/-- `RES 4,D` (R239). -/
def execRes_4_D (s : State) : Host.Outcome State Fault Refusal := resLoc 4 (.reg .d) s
/-- `RES 4,E` (R239). -/
def execRes_4_E (s : State) : Host.Outcome State Fault Refusal := resLoc 4 (.reg .e) s
/-- `RES 4,H` (R239). -/
def execRes_4_H (s : State) : Host.Outcome State Fault Refusal := resLoc 4 (.reg .h) s
/-- `RES 4,L` (R239). -/
def execRes_4_L (s : State) : Host.Outcome State Fault Refusal := resLoc 4 (.reg .l) s

/-- `RES 4,(HL)` (R240). -/
def execRes_4_atHL (s : State) : Host.Outcome State Fault Refusal := resLoc 4 .atHL s

/-- `RES 4,A` (R239). -/
def execRes_4_A (s : State) : Host.Outcome State Fault Refusal := resLoc 4 (.reg .a) s
/-- `RES 5,B` (R239). -/
def execRes_5_B (s : State) : Host.Outcome State Fault Refusal := resLoc 5 (.reg .b) s
/-- `RES 5,C` (R239). -/
def execRes_5_C (s : State) : Host.Outcome State Fault Refusal := resLoc 5 (.reg .c) s
/-- `RES 5,D` (R239). -/
def execRes_5_D (s : State) : Host.Outcome State Fault Refusal := resLoc 5 (.reg .d) s
/-- `RES 5,E` (R239). -/
def execRes_5_E (s : State) : Host.Outcome State Fault Refusal := resLoc 5 (.reg .e) s
/-- `RES 5,H` (R239). -/
def execRes_5_H (s : State) : Host.Outcome State Fault Refusal := resLoc 5 (.reg .h) s
/-- `RES 5,L` (R239). -/
def execRes_5_L (s : State) : Host.Outcome State Fault Refusal := resLoc 5 (.reg .l) s

/-- `RES 5,(HL)` (R240). -/
def execRes_5_atHL (s : State) : Host.Outcome State Fault Refusal := resLoc 5 .atHL s

/-- `RES 5,A` (R239). -/
def execRes_5_A (s : State) : Host.Outcome State Fault Refusal := resLoc 5 (.reg .a) s
/-- `RES 6,B` (R239). -/
def execRes_6_B (s : State) : Host.Outcome State Fault Refusal := resLoc 6 (.reg .b) s
/-- `RES 6,C` (R239). -/
def execRes_6_C (s : State) : Host.Outcome State Fault Refusal := resLoc 6 (.reg .c) s
/-- `RES 6,D` (R239). -/
def execRes_6_D (s : State) : Host.Outcome State Fault Refusal := resLoc 6 (.reg .d) s
/-- `RES 6,E` (R239). -/
def execRes_6_E (s : State) : Host.Outcome State Fault Refusal := resLoc 6 (.reg .e) s
/-- `RES 6,H` (R239). -/
def execRes_6_H (s : State) : Host.Outcome State Fault Refusal := resLoc 6 (.reg .h) s
/-- `RES 6,L` (R239). -/
def execRes_6_L (s : State) : Host.Outcome State Fault Refusal := resLoc 6 (.reg .l) s

/-- `RES 6,(HL)` (R240). -/
def execRes_6_atHL (s : State) : Host.Outcome State Fault Refusal := resLoc 6 .atHL s

/-- `RES 6,A` (R239). -/
def execRes_6_A (s : State) : Host.Outcome State Fault Refusal := resLoc 6 (.reg .a) s
/-- `RES 7,B` (R239). -/
def execRes_7_B (s : State) : Host.Outcome State Fault Refusal := resLoc 7 (.reg .b) s
/-- `RES 7,C` (R239). -/
def execRes_7_C (s : State) : Host.Outcome State Fault Refusal := resLoc 7 (.reg .c) s
/-- `RES 7,D` (R239). -/
def execRes_7_D (s : State) : Host.Outcome State Fault Refusal := resLoc 7 (.reg .d) s
/-- `RES 7,E` (R239). -/
def execRes_7_E (s : State) : Host.Outcome State Fault Refusal := resLoc 7 (.reg .e) s
/-- `RES 7,H` (R239). -/
def execRes_7_H (s : State) : Host.Outcome State Fault Refusal := resLoc 7 (.reg .h) s
/-- `RES 7,L` (R239). -/
def execRes_7_L (s : State) : Host.Outcome State Fault Refusal := resLoc 7 (.reg .l) s

/-- `RES 7,(HL)` (R240). -/
def execRes_7_atHL (s : State) : Host.Outcome State Fault Refusal := resLoc 7 .atHL s

/-- `RES 7,A` (R239). -/
def execRes_7_A (s : State) : Host.Outcome State Fault Refusal := resLoc 7 (.reg .a) s

/-- `SET 0,B` (R241). -/
def execSet_0_B (s : State) : Host.Outcome State Fault Refusal := setLoc 0 (.reg .b) s
/-- `SET 0,C` (R241). -/
def execSet_0_C (s : State) : Host.Outcome State Fault Refusal := setLoc 0 (.reg .c) s
/-- `SET 0,D` (R241). -/
def execSet_0_D (s : State) : Host.Outcome State Fault Refusal := setLoc 0 (.reg .d) s
/-- `SET 0,E` (R241). -/
def execSet_0_E (s : State) : Host.Outcome State Fault Refusal := setLoc 0 (.reg .e) s
/-- `SET 0,H` (R241). -/
def execSet_0_H (s : State) : Host.Outcome State Fault Refusal := setLoc 0 (.reg .h) s
/-- `SET 0,L` (R241). -/
def execSet_0_L (s : State) : Host.Outcome State Fault Refusal := setLoc 0 (.reg .l) s

/-- `SET 0,(HL)` (R242). -/
def execSet_0_atHL (s : State) : Host.Outcome State Fault Refusal := setLoc 0 .atHL s

/-- `SET 0,A` (R241). -/
def execSet_0_A (s : State) : Host.Outcome State Fault Refusal := setLoc 0 (.reg .a) s
/-- `SET 1,B` (R241). -/
def execSet_1_B (s : State) : Host.Outcome State Fault Refusal := setLoc 1 (.reg .b) s
/-- `SET 1,C` (R241). -/
def execSet_1_C (s : State) : Host.Outcome State Fault Refusal := setLoc 1 (.reg .c) s
/-- `SET 1,D` (R241). -/
def execSet_1_D (s : State) : Host.Outcome State Fault Refusal := setLoc 1 (.reg .d) s
/-- `SET 1,E` (R241). -/
def execSet_1_E (s : State) : Host.Outcome State Fault Refusal := setLoc 1 (.reg .e) s
/-- `SET 1,H` (R241). -/
def execSet_1_H (s : State) : Host.Outcome State Fault Refusal := setLoc 1 (.reg .h) s
/-- `SET 1,L` (R241). -/
def execSet_1_L (s : State) : Host.Outcome State Fault Refusal := setLoc 1 (.reg .l) s

/-- `SET 1,(HL)` (R242). -/
def execSet_1_atHL (s : State) : Host.Outcome State Fault Refusal := setLoc 1 .atHL s

/-- `SET 1,A` (R241). -/
def execSet_1_A (s : State) : Host.Outcome State Fault Refusal := setLoc 1 (.reg .a) s
/-- `SET 2,B` (R241). -/
def execSet_2_B (s : State) : Host.Outcome State Fault Refusal := setLoc 2 (.reg .b) s
/-- `SET 2,C` (R241). -/
def execSet_2_C (s : State) : Host.Outcome State Fault Refusal := setLoc 2 (.reg .c) s
/-- `SET 2,D` (R241). -/
def execSet_2_D (s : State) : Host.Outcome State Fault Refusal := setLoc 2 (.reg .d) s
/-- `SET 2,E` (R241). -/
def execSet_2_E (s : State) : Host.Outcome State Fault Refusal := setLoc 2 (.reg .e) s
/-- `SET 2,H` (R241). -/
def execSet_2_H (s : State) : Host.Outcome State Fault Refusal := setLoc 2 (.reg .h) s
/-- `SET 2,L` (R241). -/
def execSet_2_L (s : State) : Host.Outcome State Fault Refusal := setLoc 2 (.reg .l) s

/-- `SET 2,(HL)` (R242). -/
def execSet_2_atHL (s : State) : Host.Outcome State Fault Refusal := setLoc 2 .atHL s

/-- `SET 2,A` (R241). -/
def execSet_2_A (s : State) : Host.Outcome State Fault Refusal := setLoc 2 (.reg .a) s
/-- `SET 3,B` (R241). -/
def execSet_3_B (s : State) : Host.Outcome State Fault Refusal := setLoc 3 (.reg .b) s
/-- `SET 3,C` (R241). -/
def execSet_3_C (s : State) : Host.Outcome State Fault Refusal := setLoc 3 (.reg .c) s
/-- `SET 3,D` (R241). -/
def execSet_3_D (s : State) : Host.Outcome State Fault Refusal := setLoc 3 (.reg .d) s
/-- `SET 3,E` (R241). -/
def execSet_3_E (s : State) : Host.Outcome State Fault Refusal := setLoc 3 (.reg .e) s
/-- `SET 3,H` (R241). -/
def execSet_3_H (s : State) : Host.Outcome State Fault Refusal := setLoc 3 (.reg .h) s
/-- `SET 3,L` (R241). -/
def execSet_3_L (s : State) : Host.Outcome State Fault Refusal := setLoc 3 (.reg .l) s

/-- `SET 3,(HL)` (R242). -/
def execSet_3_atHL (s : State) : Host.Outcome State Fault Refusal := setLoc 3 .atHL s

/-- `SET 3,A` (R241). -/
def execSet_3_A (s : State) : Host.Outcome State Fault Refusal := setLoc 3 (.reg .a) s
/-- `SET 4,B` (R241). -/
def execSet_4_B (s : State) : Host.Outcome State Fault Refusal := setLoc 4 (.reg .b) s
/-- `SET 4,C` (R241). -/
def execSet_4_C (s : State) : Host.Outcome State Fault Refusal := setLoc 4 (.reg .c) s
/-- `SET 4,D` (R241). -/
def execSet_4_D (s : State) : Host.Outcome State Fault Refusal := setLoc 4 (.reg .d) s
/-- `SET 4,E` (R241). -/
def execSet_4_E (s : State) : Host.Outcome State Fault Refusal := setLoc 4 (.reg .e) s
/-- `SET 4,H` (R241). -/
def execSet_4_H (s : State) : Host.Outcome State Fault Refusal := setLoc 4 (.reg .h) s
/-- `SET 4,L` (R241). -/
def execSet_4_L (s : State) : Host.Outcome State Fault Refusal := setLoc 4 (.reg .l) s

/-- `SET 4,(HL)` (R242). -/
def execSet_4_atHL (s : State) : Host.Outcome State Fault Refusal := setLoc 4 .atHL s

/-- `SET 4,A` (R241). -/
def execSet_4_A (s : State) : Host.Outcome State Fault Refusal := setLoc 4 (.reg .a) s
/-- `SET 5,B` (R241). -/
def execSet_5_B (s : State) : Host.Outcome State Fault Refusal := setLoc 5 (.reg .b) s
/-- `SET 5,C` (R241). -/
def execSet_5_C (s : State) : Host.Outcome State Fault Refusal := setLoc 5 (.reg .c) s
/-- `SET 5,D` (R241). -/
def execSet_5_D (s : State) : Host.Outcome State Fault Refusal := setLoc 5 (.reg .d) s
/-- `SET 5,E` (R241). -/
def execSet_5_E (s : State) : Host.Outcome State Fault Refusal := setLoc 5 (.reg .e) s
/-- `SET 5,H` (R241). -/
def execSet_5_H (s : State) : Host.Outcome State Fault Refusal := setLoc 5 (.reg .h) s
/-- `SET 5,L` (R241). -/
def execSet_5_L (s : State) : Host.Outcome State Fault Refusal := setLoc 5 (.reg .l) s

/-- `SET 5,(HL)` (R242). -/
def execSet_5_atHL (s : State) : Host.Outcome State Fault Refusal := setLoc 5 .atHL s

/-- `SET 5,A` (R241). -/
def execSet_5_A (s : State) : Host.Outcome State Fault Refusal := setLoc 5 (.reg .a) s
/-- `SET 6,B` (R241). -/
def execSet_6_B (s : State) : Host.Outcome State Fault Refusal := setLoc 6 (.reg .b) s
/-- `SET 6,C` (R241). -/
def execSet_6_C (s : State) : Host.Outcome State Fault Refusal := setLoc 6 (.reg .c) s
/-- `SET 6,D` (R241). -/
def execSet_6_D (s : State) : Host.Outcome State Fault Refusal := setLoc 6 (.reg .d) s
/-- `SET 6,E` (R241). -/
def execSet_6_E (s : State) : Host.Outcome State Fault Refusal := setLoc 6 (.reg .e) s
/-- `SET 6,H` (R241). -/
def execSet_6_H (s : State) : Host.Outcome State Fault Refusal := setLoc 6 (.reg .h) s
/-- `SET 6,L` (R241). -/
def execSet_6_L (s : State) : Host.Outcome State Fault Refusal := setLoc 6 (.reg .l) s

/-- `SET 6,(HL)` (R242). -/
def execSet_6_atHL (s : State) : Host.Outcome State Fault Refusal := setLoc 6 .atHL s

/-- `SET 6,A` (R241). -/
def execSet_6_A (s : State) : Host.Outcome State Fault Refusal := setLoc 6 (.reg .a) s
/-- `SET 7,B` (R241). -/
def execSet_7_B (s : State) : Host.Outcome State Fault Refusal := setLoc 7 (.reg .b) s
/-- `SET 7,C` (R241). -/
def execSet_7_C (s : State) : Host.Outcome State Fault Refusal := setLoc 7 (.reg .c) s
/-- `SET 7,D` (R241). -/
def execSet_7_D (s : State) : Host.Outcome State Fault Refusal := setLoc 7 (.reg .d) s
/-- `SET 7,E` (R241). -/
def execSet_7_E (s : State) : Host.Outcome State Fault Refusal := setLoc 7 (.reg .e) s
/-- `SET 7,H` (R241). -/
def execSet_7_H (s : State) : Host.Outcome State Fault Refusal := setLoc 7 (.reg .h) s
/-- `SET 7,L` (R241). -/
def execSet_7_L (s : State) : Host.Outcome State Fault Refusal := setLoc 7 (.reg .l) s

/-- `SET 7,(HL)` (R242). -/
def execSet_7_atHL (s : State) : Host.Outcome State Fault Refusal := setLoc 7 .atHL s

/-- `SET 7,A` (R241). -/
def execSet_7_A (s : State) : Host.Outcome State Fault Refusal := setLoc 7 (.reg .a) s

end Sys2Proof.Machine
end

