-- ==== Sys2Proof/Machine/System.lean ====
section
/-! DEFINITION. NOP, HALT, STOP, DI, EI, the prefix byte and the rows with no instruction (spec/46_system.md R265 to R271): the shared operations, then one meaning per row. -/

namespace Sys2Proof.Machine

/-- `NOP` (R265). -/
def nop (s : State) : Host.Outcome State Fault Refusal := finish (.done ⟨1, 1⟩ s)

/-- `HALT`: the run's normal end (R266). -/
def halt (s : State) : Host.Outcome State Fault Refusal := finish (.exit .halt s)

/-- `STOP`: the run's normal end; no second byte is read (R267). -/
def stop (s : State) : Host.Outcome State Fault Refusal := finish (.exit .stop s)

/-- `DI` and `EI` (R268, R269). -/
def writeIme (v : Bool) (s : State) : Host.Outcome State Fault Refusal := finish (.done ⟨1, 1⟩ (s.setIme v))

/-- `PREFIX CB`: the byte after the prefix is read and its extended instruction run (R270). `step` never
runs it: its fetch decodes both bytes (log entry 8). -/
def runPrefixed (s : State) : Host.Outcome State Fault Refusal :=
  match memRead s (s.pc + 1) with
  | .done cb t => runExtended cb t
  | .exit r t => .next (raiseExit r t)

/-- An opcode with no instruction: `Unimplemented(op)`, nothing else read or written (R271). -/
def illegal (op : Byte) (s : State) : Host.Outcome State Fault Refusal := finish (.exit (.unimplemented op) s)

/-! ## One meaning per row of spec/opcode_table.json -/

/-- `NOP` (R265). -/
def execNop (s : State) : Host.Outcome State Fault Refusal := nop s

/-- `STOP` (R267). -/
def execStop (s : State) : Host.Outcome State Fault Refusal := stop s

/-- `HALT` (R266). -/
def execHalt (s : State) : Host.Outcome State Fault Refusal := halt s

/-- `PREFIX CB` (R270). -/
def execPrefix_CB (s : State) : Host.Outcome State Fault Refusal := runPrefixed s

/-- `ILLEGAL_D3` (R271). -/
def execIllegal_D3 (s : State) : Host.Outcome State Fault Refusal := illegal 0xD3 s
/-- `ILLEGAL_DB` (R271). -/
def execIllegal_DB (s : State) : Host.Outcome State Fault Refusal := illegal 0xDB s
/-- `ILLEGAL_DD` (R271). -/
def execIllegal_DD (s : State) : Host.Outcome State Fault Refusal := illegal 0xDD s
/-- `ILLEGAL_E3` (R271). -/
def execIllegal_E3 (s : State) : Host.Outcome State Fault Refusal := illegal 0xE3 s
/-- `ILLEGAL_E4` (R271). -/
def execIllegal_E4 (s : State) : Host.Outcome State Fault Refusal := illegal 0xE4 s
/-- `ILLEGAL_EB` (R271). -/
def execIllegal_EB (s : State) : Host.Outcome State Fault Refusal := illegal 0xEB s
/-- `ILLEGAL_EC` (R271). -/
def execIllegal_EC (s : State) : Host.Outcome State Fault Refusal := illegal 0xEC s
/-- `ILLEGAL_ED` (R271). -/
def execIllegal_ED (s : State) : Host.Outcome State Fault Refusal := illegal 0xED s

/-- `DI` (R268). -/
def execDi (s : State) : Host.Outcome State Fault Refusal := writeIme false s

/-- `ILLEGAL_F4` (R271). -/
def execIllegal_F4 (s : State) : Host.Outcome State Fault Refusal := illegal 0xF4 s

/-- `EI` (R269). -/
def execEi (s : State) : Host.Outcome State Fault Refusal := writeIme true s

/-- `ILLEGAL_FC` (R271). -/
def execIllegal_FC (s : State) : Host.Outcome State Fault Refusal := illegal 0xFC s
/-- `ILLEGAL_FD` (R271). -/
def execIllegal_FD (s : State) : Host.Outcome State Fault Refusal := illegal 0xFD s

end Sys2Proof.Machine
end

