-- ==== Sys2Proof/Machine/Fetch.lean ====
section
/-! DEFINITION. Fetching an instruction's bytes through the memory decoder and decoding them
(spec/40_execution_loop.md R112, R113, R119, R123, R124). -/

namespace Sys2Proof.Machine

/-- Read n bytes from an address on, in address order, one access each; the address wraps (20_memory.md R73). -/
def readBytes : Nat → Word → State → Access (List Byte)
  | 0, _, s => .done [] s
  | n + 1, a, s => (memRead s a).bind fun v t => (readBytes n (a + 1) t).bind fun vs u => .done (v :: vs) u

/-- Fetch and decode the instruction at pc: the opcode byte; the exit for an opcode in `UNIMPL_EXTRA`, before any
other access (R113); then the CB byte or the immediate bytes (R119). An illegal opcode reads nothing more and raises
its exit when run (46_system.md R271). The decoder is handed all the bytes the opcode calls for, so it never rejects
them here (log entry 16); `UNIMPL_EXTRA` is looked at here and nowhere else (log entry 17). -/
def fetch (s : State) : Access Instr :=
  (memRead s s.pc).bind fun op t =>
    if t.params.unimplExtra.contains op then .exit (.unimplemented op) t
    else (readBytes (fetchLen op - 1) (s.pc + 1) t).bind fun rest u =>
      match decode (op :: rest) with
      | .instr i _ => .done i u
      | .rejected _ => .exit (.unimplemented op) u

end Sys2Proof.Machine
end

