-- ==== Sys2Proof/Machine/Run.lean ====
section
/-! DEFINITION. One turn of either agent (spec/00_scope.md R13, spec/40_execution_loop.md R110, R111, R120,
spec/49_frame_handoff.md R313 to R320), and which agent's turn it is. -/

namespace Sys2Proof.Machine

/-- `ProducerStep()` (40_execution_loop.md R111): fetch, decode, run, advance pc, report the ticks; or the exit that
a fetch raises (R117). -/
def instructionStep (s : State) : Host.Outcome State Fault Refusal :=
  match fetch s with
  | .done i t => exec i t
  | .exit reason t => .next (raiseExit reason t)

/-- The producer's turn: nothing after an exit (R120; log entry 11), an instruction while its phase is Running, else a hand-off step
or a wait (49_frame_handoff.md R313, R314). -/
def producerTurn (s : State) : Host.Outcome State Fault Refusal :=
  match s.status with
  | .exited _ _ => .next s
  | .running => match s.phase with
    | .running => instructionStep s
    | .awaitAck => .next (handoffStep s)
    | .awaitSlot => .next (handoffStep s)

/-- The agent whose turn it is: the producer where no consumer is attached; else the first one listed, or past the
list's end a free value, so that no interleaving is left out, an endless one neither (R320; log entry 5). -/
def nextAgent (s : State) : Agent :=
  if s.params.consumerAttached then s.turns.headD (Config.laterTurn s.turnCount) else .producer

/-- The state once the turn is taken: the first one listed is off the list, or one more is counted past its end. -/
def takeTurn (s : State) : State :=
  if s.params.consumerAttached then
    match s.turns with
    | _ :: rest => { s with turns := rest }
    | [] => { s with turnCount := s.turnCount + 1 }
  else s

/-- One turn of the machine. Once the producer has exited and the consumer has no enabled step, the run is over
(R120): a fault that carries the exit record (log entry 10). Until then the consumer goes on (log entry 11). -/
def machineStep (s : State) : Host.Outcome State Fault Refusal :=
  match s.status, consumerEnabled s with
  | .exited reason pcAtExit, false => .fault (.runEnded reason pcAtExit)
  | _, _ => match nextAgent s with
    | .producer => producerTurn (takeTurn s)
    | .consumer => .next (consumerTurn (takeTurn s))

/-- Bytes placed at pc past the decoder's write rules, as a launch loads them, the run not ended, the producer not
blocked and, with a consumer attached, the producer's turn next: all that the next step needs to run them
(log entry 9). -/
def State.prepareFetch (s : State) (bytes : List Byte) : State :=
  { s.placeAll s.pc bytes with
    status := .running
    phase := .running
    turns := if s.params.consumerAttached then .producer :: s.turns else s.turns }

end Sys2Proof.Machine
end

