-- ==== Sys2Proof/Machine/Step.lean ====
section
/-! DEFINITION. One step of the machine, and the placing of an instruction where the next step fetches it. -/

namespace Sys2Proof.Machine

/-- One step: one turn of one agent. -/
def step (s : State) : Host.Outcome State Fault Refusal := machineStep s

/-- The state with the instruction of nbits bits w placed at pc, and the producer, running, next to move
(log entry 9). -/
def State.withFetchWord (s : State) (nbits w : Nat) : State :=
  s.prepareFetch (tableBytes nbits w)

end Sys2Proof.Machine
end

