-- ==== Sys2Proof/Machine/Launch.lean ====
section
/-! DEFINITION. A launch: what the host supplies and the state the run starts in, or a refusal
(spec/70_reset_and_hazards.md R350, R351, R353, spec/10_state.md R35 to R43). -/

namespace Sys2Proof.Machine

/-- The bus addresses of the read-write memory: VRAM, ERAM, WRAM (0x8000-0xDFFF) and HRAM (0xFF80-0xFFFE)
(20_memory.md R51). -/
def ramKey (k : Nat) : Bool := (0x8000 ≤ k && k < 0xE000) || (0xFF80 ≤ k && k < 0xFFFF)

/-- The bytes of FB, and so of a frame (48_ppu.md R294). -/
def frameSize : Nat := 92160

/-- What the host supplies at launch (R351): the two images, the parameters (CONSUMER_ATTACHED among them), INIT_MEM
(cells of the read-write memory by bus address, cells of FB, and the bytes IFR and IER), and the agents'
first turns (log entry 5). -/
structure LaunchInput where
  boot    : List Byte
  rom     : List Byte
  params  : Params
  initRam : List Host.Cell
  initFb  : List Host.Cell
  ifr     : Byte
  ier     : Byte
  turns   : List Agent
deriving DecidableEq, Repr

/-- The launch state, or none: "a launch with a boot image of any other size, or an empty ROM, or a ROM longer than
32,768 bytes, is refused" (R351). -/
def launch (x : LaunchInput) : Option State :=
  if bootImageOk x.boot && romImageOk x.rom then
    some { State.reset with
      bootLocked := x.params.bootLockedAtLaunch
      boot := Memory.runCells 0 x.boot
      rom := Memory.runCells 0 x.rom
      romLen := x.rom.length
      ram := Memory.ofCells (x.initRam.filter fun c => ramKey c.1)
      fb := Memory.ofCells (x.initFb.filter fun c => c.1 < frameSize)
      ifr := x.ifr
      ier := x.ier
      params := x.params
      turns := x.turns }
  else none

end Sys2Proof.Machine
end

