-- ==== Sys2Proof/Safety.lean ====
section
/-! DEFINITION. The terms the statements use: what an access finds and leaves, what an instruction leaves unchanged,
and the invariants of the machine (spec/48_ppu.md R298, spec/49_frame_handoff.md R319, spec/10_state.md R29 to R32). -/

namespace Sys2Proof.Machine

/-! ## What an access finds and leaves -/

/-- Some region answers a read of the address. -/
def readable (s : State) (a : Word) : Bool := busRead s a ≠ .outOfBounds

/-- The byte a read of the address returns: a stub register's is the next draw (20_memory.md R64). -/
def valueAt (s : State) (a : Word) : Byte :=
  match busRead s a with
  | .byte v => v
  | .draw => Config.stubDraw s.drawCount
  | .outOfBounds => 0

/-- The state after a read of the address: only a draw is used up. -/
def afterRead (s : State) (a : Word) : State :=
  match busRead s a with
  | .draw => { s with drawCount := s.drawCount + 1 }
  | .byte _ | .outOfBounds => s

/-- Some region accepts a write to the address. -/
def writable (s : State) (a : Word) : Bool := (busWrite s a 0).isSome

/-- The state after a write of a byte to the address. -/
def afterWrite (s : State) (a : Word) (v : Byte) : State := (busWrite s a v).getD s

/-- Both bytes of a word can be read. -/
def readable16 (s : State) (a : Word) : Bool := readable s a && readable s (a + 1)

/-- The word a two-byte read returns, low byte first (20_memory.md R71). -/
def value16 (s : State) (a : Word) : Word := wordOf (valueAt (afterRead s a) (a + 1)) (valueAt s a)

/-- The state after a two-byte read. -/
def afterRead16 (s : State) (a : Word) : State := afterRead (afterRead s a) (a + 1)

/-- Both bytes of a word can be written. -/
def writable16 (s : State) (a : Word) : Bool := writable s a && writable s (a + 1)

/-- The state after a two-byte write, low byte first (20_memory.md R72). -/
def afterWrite16 (s : State) (a : Word) (w : Word) : State := afterWrite (afterWrite s a (loByte w)) (a + 1) (hiByte w)

/-! ## An operand of the table r8 -/

/-- The operand can be read: a register always, the byte at HL where it is readable. -/
def srcReadable (s : State) : Operand8 → Bool
  | .reg _ => true
  | .atHL => readable s s.hl

/-- The operand's value. -/
def srcValue (s : State) : Operand8 → Byte
  | .reg r => s.getR8 r
  | .atHL => valueAt s s.hl

/-- The state after the operand is read. -/
def srcAfter (s : State) : Operand8 → State
  | .reg _ => s
  | .atHL => afterRead s s.hl

/-- The operand can be written. -/
def dstWritable (s : State) : Operand8 → Bool
  | .reg _ => true
  | .atHL => writable s s.hl

/-- The state after the operand is written. -/
def dstAfter (s : State) (o : Operand8) (v : Byte) : State :=
  match o with
  | .reg r => s.setR8 r v
  | .atHL => afterWrite s s.hl v

/-! ## Outcomes -/

/-- The outcome is an exit: a next state whose status holds the reason and the address of the instruction
(40_execution_loop.md R118). Nothing else of that state is read (60_exceptions.md R338). -/
def ExitsWith (x : Host.Outcome State Fault Refusal) (reason : ExitReason) (pcAtExit : Word) : Prop :=
  ∃ t, x = .next t ∧ t.status = .exited reason pcAtExit

/-- The outcome of a form that reads or writes memory where no region answers: `OutOfBounds` at the instruction's
address (60_exceptions.md R331). -/
def Faults (x : Host.Outcome State Fault Refusal) (s : State) (a : Word) (k : AccessKind) : Prop :=
  ExitsWith x (.outOfBounds a k) s.pc

/-- The outcome is a next state in which the run goes on. -/
def RunsTo (x : Host.Outcome State Fault Refusal) (t : State) : Prop := x = .next t ∧ t.status = .running

/-! ## The spec's formulas, over natural numbers -/

/-- The flags of `Add8(a, b)` (42_alu8.md R162). -/
def addFlags (p : HcPolicy) (a b : Byte) : Flags :=
  ⟨decide ((a.toNat + b.toNat) % 256 = 0), false, hcAdd8 p a b, decide (a.toNat + b.toNat > 0xFF)⟩

/-- The flags of `Sub8(a, b)` (42_alu8.md R163). -/
def subFlags (p : HcPolicy) (a b : Byte) : Flags :=
  ⟨decide (a.toNat = b.toNat), true, hcSub8 p a b, decide (a.toNat < b.toNat)⟩

/-- The flags of a bitwise operation: Z from the result, H given, N and C clear (42_alu8.md R180, R183, R186). -/
def bitwiseFlags (h : Bool) (r : Byte) : Flags := ⟨decide (r.toNat = 0), false, h, false⟩

/-- `u8(v + F.C)`, the operand of ADC and SBC (42_alu8.md R164). -/
def withCarry (f : Flags) (v : Byte) : Byte := BitVec.ofNat 8 (v.toNat + f.c.toNat)

/-- `sext_16(e)` (00_scope.md R9). -/
def signExtended (e : Byte) : Nat := if e.toNat < 128 then e.toNat else e.toNat + 0xFF00

/-- `cond(i)` (45_control_transfer.md R245). -/
abbrev condHolds (i : Fin 4) (f : Flags) : Prop :=
  (i = 0 → f.z = false) ∧ (i = 1 → f.z = true) ∧ (i = 2 → f.c = false) ∧ (i = 3 → f.c = true)

/-- H and C of `spOffset(sp, e)`, from the unsigned byte e (43_alu16.md R201). -/
def offsetFlags (p : SpOffsetFlags) (sp : Word) (e : Byte) : Flags :=
  match p with
  | .lowByte =>
    ⟨false, false, decide (sp.toNat % 16 + e.toNat % 16 > 0xF), decide (sp.toNat % 256 + e.toNat > 0xFF)⟩
  | .wide12_16 => ⟨false, false, decide (sp.toNat % 4096 + e.toNat > 0xFFF), decide (sp.toNat + e.toNat > 0xFFFF)⟩

/-- A rotated or shifted byte and the bit shifted out, the operation by its number y in the extended table
(44_rotate_shift_bit.md R221 to R236, 30_encoding.md R98): RLC, RRC, RL, RR, SLA, SRA, SWAP, SRL. -/
def shifted (y : Fin 8) (carry : Bool) (v : Nat) : Nat × Bool :=
  match y with
  | 0 => (v * 2 % 256 + v / 128, decide (v / 128 = 1))
  | 1 => (v / 2 + v % 2 * 128, decide (v % 2 = 1))
  | 2 => (v * 2 % 256 + carry.toNat, decide (v / 128 = 1))
  | 3 => (v / 2 + carry.toNat * 128, decide (v % 2 = 1))
  | 4 => (v * 2 % 256, decide (v / 128 = 1))
  | 5 => (v / 2 + v / 128 * 128, decide (v % 2 = 1))
  | 6 => (v % 16 * 16 + v / 16, false)
  | 7 => (v / 2, decide (v % 2 = 1))

/-! ## What an instruction leaves unchanged -/

/-- The cell that answers an address: an echo address is its work-RAM address (20_memory.md R58). -/
def cellOf (a : Word) : Nat := if 0xE000 ≤ a.toNat ∧ a.toNat < 0xFE00 then a.toNat - 0x2000 else a.toNat

/-- A store to b can change what a read of a finds: the same cell, or the overlay's range where b is the boot-lock
register (20_memory.md R66, R78). -/
def touches (b a : Word) : Prop := cellOf a = cellOf b ∨ (b = 0xFF50 ∧ a.toNat < 0x100)

/-- Every 8-bit register besides the listed ones holds what it held. -/
def KeepsRegs (besides : List Reg8) (s t : State) : Prop := ∀ r, r ∉ besides → t.getR8 r = s.getR8 r

/-- Every address outside the stored bytes reads as before; LY (0xFF44) is the PPU's line, which the tick report after
the instruction may move (20_memory.md R63, 40_execution_loop.md R116). -/
def KeepsMemory (stored : List Word) (s t : State) : Prop :=
  ∀ a, a ≠ 0xFF44 → (∀ b ∈ stored, ¬ touches b a) → busRead t a = busRead s a

/-- What no instruction writes: the images, the parameters, the hand-off's flag and frames, the turns. -/
def KeepsRun (s t : State) : Prop :=
  t.boot = s.boot ∧ t.rom = s.rom ∧ t.romLen = s.romLen ∧ t.params = s.params ∧
  t.consumed = s.consumed ∧ t.slot = s.slot ∧ t.held = s.held ∧ t.turns = s.turns ∧
  t.turnCount = s.turnCount

/-- The special registers besides IME, where nothing is stored: the lock, IF, IE and the scroll registers. -/
def KeepsSpecial (s t : State) : Prop :=
  t.bootLocked = s.bootLocked ∧ t.ifr = s.ifr ∧ t.ier = s.ier ∧ t.scy = s.scy ∧ t.scx = s.scx

/-- The frame of a form that stores nothing: the listed registers may change, no other; no special register, no byte
of memory. -/
def StoresNothing (besides : List Reg8) (s t : State) : Prop :=
  KeepsRegs besides s t ∧ KeepsSpecial s t ∧ KeepsMemory [] s t ∧ KeepsRun s t

/-- The frame of a form that stores to the listed addresses: no byte of memory outside them changes; a special
register changes only where it is one of the bytes stored to. -/
def StoresOnly (stored : List Word) (besides : List Reg8) (s t : State) : Prop :=
  KeepsRegs besides s t ∧ KeepsMemory stored s t ∧ KeepsRun s t ∧
  (0xFF50 ∉ stored → t.bootLocked = s.bootLocked) ∧ (0xFF0F ∉ stored → t.ifr = s.ifr) ∧
  (0xFFFF ∉ stored → t.ier = s.ier) ∧ (0xFF42 ∉ stored → t.scy = s.scy) ∧ (0xFF43 ∉ stored → t.scx = s.scx)

/-! ## The invariants -/

/-- Every listed cell's key satisfies p. -/
def keysOk (p : Nat → Bool) (m : Memory) : Bool := m.all fun c => p c.1

/-- A frame: canonical, within 92,160 bytes (48_ppu.md R294). -/
def frameOk (m : Memory) : Bool := m.wf && keysOk (fun k => k < frameSize) m

/-- Every store is in canonical form and within its region (10_state.md R29 to R32). -/
def MemInv (s : State) : Prop :=
  s.boot.wf = true ∧ keysOk (fun k => k < 256) s.boot = true ∧
  s.rom.wf = true ∧ keysOk (fun k => k < s.romLen) s.rom = true ∧ 1 ≤ s.romLen ∧ s.romLen ≤ 32768 ∧
  s.ram.wf = true ∧ keysOk ramKey s.ram = true ∧
  frameOk s.fb = true ∧ s.slot.all frameOk = true ∧ s.held.all frameOk = true

/-- The invariants of the PPU state (48_ppu.md R298). -/
def PpuInv (s : State) : Prop :=
  (s.phase = .running → s.clock < thr s.mode) ∧ s.line ≤ 153 ∧
  (s.mode ≠ .vBlank → s.line < s.params.vblankEntry.toNat) ∧
  (s.mode = .vBlank → s.params.vblankEntry.toNat ≤ s.line) ∧
  (s.phase ≠ .running → s.mode = .vBlank ∧ s.line = s.params.vblankEntry.toNat)

/-- The invariants of the hand-off (49_frame_handoff.md R319, R311): at most one frame is out, the flag says whether
one is, and without a consumer nothing of it changes. -/
def HandoffInv (s : State) : Prop :=
  s.phase ≠ .awaitSlot ∧ (s.slot = none ∨ s.held = none) ∧
  (s.consumed = true ↔ s.slot = none ∧ s.held = none) ∧
  (s.params.consumerAttached = false → s.phase = .running ∧ s.consumed = true)

/-- The machine's invariant. -/
def MachineInv (s : State) : Prop := MemInv s ∧ PpuInv s ∧ HandoffInv s

end Sys2Proof.Machine
end

