-- ==== Sys2Proof/Certificates/Slice0/Obligations.lean ====
section
/-! DEFINITION. The statements for the provers, in the order of OBLIGATIONS.json. Each docstring names the rules of
spec/ it formalises. A statement holds for every value of the named parameters and of the free values. -/

open Sys2Proof Sys2Proof.Machine

/-! ## Encoding -/

/-- Decoding gives back every well-formed instruction with every operand, whatever bytes follow (30_encoding.md R90,
R91, R99, R100, R101). Marked by the spec as its own: R91, R99, R100, R101 (general knowledge). -/
def Obligations.DecodeOfEncode : Prop :=
  ∀ (i : Instr) (rest : List Byte), i.wellFormed = true → decode (encode i ++ rest) = .instr i rest

/-- Encoding gives back the bytes of every instruction the decoder reads: no two words decode to one instruction, and
no bit of an encoding is dropped (30_encoding.md R100, R101). Marked by the spec as its own: R100, R101 (general
knowledge). -/
def Obligations.EncodeOfDecode : Prop :=
  ∀ (bytes : List Byte) (i : Instr) (rest : List Byte), decode bytes = .instr i rest → encode i ++ rest = bytes

/-- Words written out from the maps of R100 and R101: the source's own two, and one of each format of R91. Marked by
the spec as its own: R100, R101, R91 (general knowledge). -/
def Obligations.SampleWordsDecode : Prop :=
  decode [0b00111110, 0x05] = .instr (.ld_A_d8 5) [] ∧ decode [0b01110110] = .instr .halt [] ∧
  decode [0b11110000, 0x44] = .instr (.ldh_A_atA8 0x44) [] ∧ decode [0b00100000, 0xFB] = .instr (.jr_NZ_e8 0xFB) [] ∧
  decode [0b00100001, 0x00, 0xC0] = .instr (.ld_HL_d16 0xC000) [] ∧
  decode [0b11000011, 0x50, 0x01] = .instr (.jp_a16 0x0150) [] ∧
  decode [0xCB, 0b00110111] = .instr .swap_A [] ∧ decode [0xCB, 0b01111100] = .instr .bit_7_H []

/-! ## A step -/

/-- A step at which the producer moves runs the instruction its bytes at pc decode to, on the state its fetch leaves:
nothing is done around it (40_execution_loop.md R111, R112, R113). The turn taken off is the model's own (log entry
5). -/
def Obligations.StepRunsDecodedInstruction : Prop :=
  ∀ (s t : State) (bytes : List Byte) (i : Instr),
    s.status = .running → s.phase = .running → nextAgent s = .producer →
    readBytes bytes.length s.pc (takeTurn s) = .done bytes t → decode bytes = .instr i [] → i.wellFormed = true →
    (∀ op ∈ bytes.head?, op ∉ s.params.unimplExtra) → step s = exec i t

/-- The bytes of memory that is no stub register are read one by one, in address order, and nothing changes; the
address wraps (40_execution_loop.md R119, 20_memory.md R73, R78). Marked by the spec as its own: R119 (D25), R73 (D22),
R78 (derived). -/
def Obligations.FetchedBytesAreMemory : Prop :=
  ∀ (s : State) (a : Word) (bytes : List Byte),
    (∀ k (h : k < bytes.length), busRead s (a + BitVec.ofNat 16 k) = .byte bytes[k]) →
    readBytes bytes.length a s = .done bytes s

/-- What a fetch raises: `OutOfBounds` for the first of the instruction's bytes that no region answers, and
`Unimplemented` for an opcode in `UNIMPL_EXTRA` before any further byte is read (40_execution_loop.md R112, R113, R119,
R124). Marked by the spec as its own: R119 (D25), R124 (D10). -/
def Obligations.FetchFaults : Prop :=
  ∀ s : State, s.status = .running → s.phase = .running → nextAgent s = .producer →
    (readable s s.pc = false → Faults (step s) s s.pc .read) ∧
    (readable s s.pc = true →
      (valueAt s s.pc ∈ s.params.unimplExtra → ExitsWith (step s) (.unimplemented (valueAt s s.pc)) s.pc) ∧
      (valueAt s s.pc ∉ s.params.unimplExtra → 2 ≤ fetchLen (valueAt s s.pc) →
        (readable s (s.pc + 1) = false → Faults (step s) s (s.pc + 1) .read) ∧
        (readable s (s.pc + 1) = true → fetchLen (valueAt s s.pc) = 3 → readable s (s.pc + 2) = false →
          Faults (step s) s (s.pc + 2) .read)))

/-- No producer step is left after an exit, and the run is over once the consumer has none either: the model's fault
carries the exit record (10_state.md R33, 40_execution_loop.md R120). While the consumer still has a step, the
producer's turn changes nothing. The fault, the turns and the consumer going on are the model's own (log entries 5, 10,
11). -/
def Obligations.NoProducerStepAfterExit : Prop :=
  ∀ (s : State) (reason : ExitReason) (pc : Word), s.status = .exited reason pc →
    (consumerEnabled s = false → step s = .fault (.runEnded reason pc)) ∧
    (consumerEnabled s = true → nextAgent s = .producer → step s = .next (takeTurn s)) ∧
    (consumerEnabled s = true → nextAgent s = .consumer → step s = .next (consumerTurn (takeTurn s)))

/-- A blocked producer's turn changes nothing (49_frame_handoff.md R313, R314): no instruction, no access, no tick. The
turn taken off is the model's own (log entry 5). -/
def Obligations.BlockedProducerWaits : Prop :=
  ∀ s : State, s.status = .running → nextAgent s = .producer →
    (s.phase = .awaitAck → s.consumed = false → step s = .next (takeTurn s)) ∧
    (s.phase = .awaitSlot → s.slot.isSome = true → step s = .next (takeTurn s))

/-! ## The end of an instruction, and the PPU -/

/-- The end of an instruction: pc goes on by len modulo 2^16 and the PPU is stepped by 4 * cyc ticks; nothing but pc
and the PPU's clock, mode, line and frame buffer and the producer's phase moves, and no transition stays due
(40_execution_loop.md R115, R116, 48_ppu.md R298). Marked by the spec as its own: R115 (D22), R298 (derived). -/
def Obligations.RetireAdvancesPcAndPpu : Prop :=
  ∀ (len cyc : Nat) (s : State),
    (retire len cyc s).pc.toNat = (s.pc.toNat + len) % 65536 ∧
    retire len cyc s = ppuStep (4 * cyc) { s with pc := s.pc + BitVec.ofNat 16 len } ∧
    retire len cyc s =
      { s with
        pc := (retire len cyc s).pc
        clock := (retire len cyc s).clock
        mode := (retire len cyc s).mode
        line := (retire len cyc s).line
        fb := (retire len cyc s).fb
        phase := (retire len cyc s).phase } ∧
    ((retire len cyc s).phase = .running → (retire len cyc s).clock < thr (retire len cyc s).mode)

/-- What `PpuStep(t)` does from a clock below the threshold, for t at most the least threshold: nothing but count, or
one transition. Under `Carry` the ticks beyond the threshold are kept, under `Reset` they are dropped, and then one
transition is all there is for any t (48_ppu.md R282, R283, R284). Marked by the spec as its own: R283 (D4), R284
(derived). -/
def Obligations.OneTransitionPerStep : Prop :=
  ∀ (t : Nat) (s : State), s.phase = .running → s.clock < thr s.mode →
    (s.clock + t < thr s.mode → ppuStep t s = { s with clock := s.clock + t }) ∧
    (thr s.mode ≤ s.clock + t → t ≤ 80 ∨ s.params.ppuOvershoot = .reset →
      ppuStep t s = ppuTransition { s with clock := s.clock + t } ∧
      (ppuStep t s).clock = (if s.params.ppuOvershoot = .carry then s.clock + t - thr s.mode else 0))

/-- The transition out of each mode (48_ppu.md R281, R282), and the beginning of a publication: only with a consumer
attached, which `phase` shows (49_frame_handoff.md R312). Marked by the spec as its own: R281 (D5). -/
def Obligations.PpuTransitions : Prop :=
  ∀ s : State,
    let u := ppuTransition s
    let entry := s.params.vblankEntry.toNat
    (s.mode = .oamScan → u = { s with clock := u.clock, mode := .pixelTransfer }) ∧
    (s.mode = .pixelTransfer → u = { s with clock := u.clock, mode := .hBlank, fb := (renderLine s.line s).fb }) ∧
    (s.mode = .hBlank → s.line + 1 ≠ entry → u = { s with clock := u.clock, line := s.line + 1, mode := .oamScan }) ∧
    (s.mode = .hBlank → s.line + 1 = entry →
      u = { s with
            clock := u.clock
            line := entry
            mode := .vBlank
            phase := if s.params.consumerAttached then .awaitAck else s.phase }) ∧
    (s.mode = .vBlank → s.line < 153 → u = { s with clock := u.clock, line := s.line + 1 }) ∧
    (s.mode = .vBlank → s.line = 153 → u = { s with clock := u.clock, line := 0, mode := .oamScan })

/-- A frame is 154 lines of 456 ticks, in both settings of `VBLANK_ENTRY_LINE`: under `Carry`, with no consumer
attached, line L begins L * 456 ticks after the frame, in OamScan below the entry line and in VBlank from it on, and
after 154 lines the next frame begins (48_ppu.md R285). Marked by the spec as its own: R285 (derived). That
`VBLANK_ENTRY_LINE` is 143 or 144 is the model's reading (log entry 13). -/
def Obligations.FrameOf154Lines : Prop :=
  ∀ s : State, s.params.ppuOvershoot = .carry → s.params.consumerAttached = false → s.phase = .running →
    s.mode = .oamScan → s.clock = 0 → s.line = 0 →
    (∀ n ≤ 153, ((ppuStep 456)^[n] s).line = n ∧ ((ppuStep 456)^[n] s).clock = 0 ∧
      ((ppuStep 456)^[n] s).mode = (if n < s.params.vblankEntry.toNat then .oamScan else .vBlank)) ∧
    ((ppuStep 456)^[154] s).line = 0 ∧ ((ppuStep 456)^[154] s).clock = 0 ∧ ((ppuStep 456)^[154] s).mode = .oamScan

/-- Every pixel of a rendered row: the map coordinates, the tile identifier at offset 0x1800, the sample from the first
byte of the tile's row, the grey by the polarity, the four bytes R, G, B, A at their place in FB (48_ppu.md R287, R288,
R289, R290, R294). VRAM[x] lies at key 0x8000 + x. Marked by the spec as its own: R288 (D18, general knowledge), R289
(D18), R290 (D19), R294 (general knowledge). -/
def Obligations.RenderedPixel : Prop :=
  ∀ (s : State) (l px k : Nat), px < 160 → k < 4 →
    let mx := (px + s.scx.toNat) % 256
    let my := (l + s.scy.toNat) % 256
    let id := (s.ram.read (0x8000 + (0x1800 + my / 8 * 32 + mx / 8))).toNat
    let b := (s.ram.read (0x8000 + (id * 16 + my % 8 * 2))).toNat
    let bit := b / 2 ^ (7 - mx % 8) % 2
    (renderLine l s).fb.read ((l * 160 + px) * 4 + k) =
      if k = 3 then 255 else if (bit = 1 ↔ s.params.pixelPolarity = .setIsBlack) then 0 else 255

/-- Rendering writes row l of FB and nothing else (48_ppu.md R286, R294). Marked by the spec as its own: R294 (general
knowledge). -/
def Obligations.RenderWritesOneRow : Prop :=
  ∀ (s : State) (l : Nat),
    (∀ k, k < l * 640 ∨ (l + 1) * 640 ≤ k → (renderLine l s).fb.read k = s.fb.read k) ∧
    renderLine l s = { s with fb := (renderLine l s).fb }

/-! ## The frame hand-off -/

/-- The producer's two hand-off steps (49_frame_handoff.md R313, R314, R315): the flag is cleared, a copy of FB goes
into an empty slot, the phase is Running and the PPU's loop goes on; from a VBlank whose clock is below the threshold
it does nothing more. The turn taken off is the model's own (log entry 5). -/
def Obligations.HandoffSteps : Prop :=
  ∀ s : State, s.status = .running → nextAgent s = .producer →
    (s.phase = .awaitAck → s.consumed = true → s.slot = none →
      step s = .next (ppuRun { takeTurn s with consumed := false, slot := some s.fb, phase := .running })) ∧
    (s.phase = .awaitAck → s.consumed = true → s.slot.isSome = true →
      step s = .next { takeTurn s with consumed := false, phase := .awaitSlot }) ∧
    (s.phase = .awaitSlot → s.slot = none →
      step s = .next (ppuRun { takeTurn s with slot := some s.fb, phase := .running })) ∧
    (s.phase = .awaitAck → s.consumed = true → s.slot = none → s.clock < thr s.mode →
      step s = .next { takeTurn s with consumed := false, slot := some s.fb, phase := .running })

/-- The consumer's two steps, and its turn where it has neither (49_frame_handoff.md R316, R317): it touches the slot,
the frame it holds and the flag, nothing of the producer's. The turns are the model's own (log entry 5), and so is that
the consumer goes on after the producer has exited, which the last clause takes in (log entry 11). -/
def Obligations.ConsumerSteps : Prop :=
  ∀ s : State, s.params.consumerAttached = true →
    (s.held = none → s.slot.isSome = true → consumerTurn s = { s with held := s.slot, slot := none }) ∧
    (s.held.isSome = true → consumerTurn s = { s with held := none, consumed := true }) ∧
    (s.held = none → s.slot = none → consumerTurn s = s) ∧
    (nextAgent s = .consumer → (s.status = .running ∨ consumerEnabled s = true) →
      step s = .next (consumerTurn (takeTurn s)))

/-- Whatever the instruction, and whether it completes or exits: the images, the parameters, the hand-off's flag and
frames are as they were, so a published frame stays as it was published (10_state.md R29, 49_frame_handoff.md R318),
and a lock once set stays set (10_state.md R28). Marked by the spec as its own: R318 (D31). What it says of a fault's
state rests on log entry 7 (D26). -/
def Obligations.NoInstructionTouchesRun : Prop :=
  ∀ (i : Instr) (s t : State), exec i s = .next t →
    KeepsRun s t ∧ (s.bootLocked = true → t.bootLocked = true)

/-- An instruction and a turn of the consumer give the same state in either order: what a program computes does not
depend on the interleaving (49_frame_handoff.md R320). Marked by the spec as its own: R320 (D36). Turns are the model's
own (log entry 5), and so is the state at a fault (log entry 7, D26). -/
def Obligations.ConsumerCommutesWithInstructions : Prop :=
  ∀ (i : Instr) (s t : State), exec i s = .next t → exec i (consumerTurn s) = .next (consumerTurn t)

/-! ## The machine's invariant, and what no step changes -/

/-- Every step keeps the invariant: the stores canonical and within their regions, R298's bounds on the PPU, R319's on
the hand-off (48_ppu.md R298, 49_frame_handoff.md R319, 10_state.md R29 to R32). Marked by the spec as its own: R298
(derived), R319 (derived), R30 (D6, general knowledge). What it says of a fault's state rests on log entry 7 (D26). -/
def Obligations.StepKeepsInvariant : Prop := ∀ s t : State, MachineInv s → step s = .next t → MachineInv t

/-- The machine right after reset meets the invariant. The images and INIT_MEM of `State.reset` are the model's choice
(log entries 1 and 2). -/
def Obligations.ResetMeetsInvariant : Prop := MachineInv State.reset

/-- Over every step of either agent: the images and the parameters never change, the lock never opens, and the reason
`Clean` is never produced (10_state.md R28, R29, 60_exceptions.md R334). Marked by the spec as its own: R334 (D27).
What it says of a fault's state rests on log entry 7 (D26). -/
def Obligations.StepKeepsImagesAndLock : Prop :=
  ∀ s t : State, step s = .next t →
    t.boot = s.boot ∧ t.rom = s.rom ∧ t.romLen = s.romLen ∧ t.params = s.params ∧
    (s.bootLocked = true → t.bootLocked = true) ∧
    ((∀ pc, s.status ≠ .exited .clean pc) → ∀ pc, t.status ≠ .exited .clean pc) ∧
    (∀ reason pc, s.status = .exited reason pc → t.status = .exited reason pc)

/-! ## Reset and launch -/

/-- The values the spec gives for reset (10_state.md R35, R36, R37, R40, R41, R42, R43). Marked by the spec as its own:
R36 (D24), R40 (derived), R41 (D15), R42 (D20). -/
def Obligations.ResetValues : Prop :=
  (∀ r, State.reset.getR8 r = 0) ∧ State.reset.f.toByte = 0 ∧ State.reset.sp = 0 ∧ State.reset.pc = 0 ∧
  State.reset.ime = false ∧ State.reset.bootLocked = false ∧ State.reset.clock = 0 ∧ State.reset.mode = .oamScan ∧ State.reset.line = 0 ∧
  State.reset.scy = 0 ∧ State.reset.scx = 0 ∧ State.reset.consumed = true ∧ State.reset.slot = none ∧
  State.reset.phase = .running ∧ State.reset.held = none ∧ State.reset.status = .running

/-- A launch is refused exactly for a boot image that is not 256 bytes, an empty ROM or one over 32,768 bytes; else the
run starts at pc 0 with every register as at reset, the images and INIT_MEM as supplied, the lock as
`BOOT_LOCKED_AT_LAUNCH` says, and the invariant holds (70_reset_and_hazards.md R350, R351, R353, 10_state.md R37, R38,
R39). Of the cells supplied for a byte the last counts, and a byte with none is 0x00, which is the model's choice (log
entry 1). Marked by the spec as its own: R351 (D33), R353 (D21), R39 (D7). The turns are the model's own (log entry
5). -/
def Obligations.LaunchState : Prop :=
  ∀ x : LaunchInput,
    let lastCell (cells : List Host.Cell) (k : Nat) : Byte :=
      match cells.reverse.find? (fun c => c.1 == k) with
      | some c => c.2
      | none => 0
    (launch x = none ↔ x.boot.length ≠ 256 ∨ x.rom.length = 0 ∨ x.rom.length > 32768) ∧
    ∀ s, launch x = some s →
      s = { State.reset with
            bootLocked := x.params.bootLockedAtLaunch
            boot := s.boot
            rom := s.rom
            romLen := x.rom.length
            ram := s.ram
            fb := s.fb
            ifr := x.ifr
            ier := x.ier
            params := x.params
            drawCount := s.drawCount
            turns := x.turns
            turnCount := s.turnCount } ∧
      (∀ k (h : k < x.boot.length), s.boot.read k = x.boot[k]) ∧
      (∀ k (h : k < x.rom.length), s.rom.read k = x.rom[k]) ∧
      (∀ k, ramKey k = true → s.ram.read k = lastCell x.initRam k) ∧
      (∀ k < 92160, s.fb.read k = lastCell x.initFb k) ∧ MachineInv s

/-! ## Registers -/

/-- The pairs are views of the 8-bit registers, high byte first, and a write of a pair writes its two halves and
nothing else; F is Z at bit 7, N at bit 6, H at bit 5, C at bit 4 with its low nibble zero, and a byte written to it
loses its low nibble (10_state.md R21, R22, R23, R24). Marked by the spec as its own: R21 (general knowledge). -/
def Obligations.PairsAndFlagsByte : Prop :=
  ∀ (s : State) (w : Word),
    s.f.toByte.toNat = s.f.z.toNat * 128 + s.f.n.toNat * 64 + s.f.h.toNat * 32 + s.f.c.toNat * 16 ∧
    s.bc.toNat = s.b.toNat * 256 + s.c.toNat ∧ s.de.toNat = s.d.toNat * 256 + s.e.toNat ∧
    s.hl.toNat = s.h.toNat * 256 + s.l.toNat ∧ s.af.toNat = s.a.toNat * 256 + s.f.toByte.toNat ∧
    s.setStack .bc w = { s with b := BitVec.ofNat 8 (w.toNat / 256), c := BitVec.ofNat 8 w.toNat } ∧
    s.setStack .de w = { s with d := BitVec.ofNat 8 (w.toNat / 256), e := BitVec.ofNat 8 w.toNat } ∧
    s.setStack .hl w = { s with h := BitVec.ofNat 8 (w.toNat / 256), l := BitVec.ofNat 8 w.toNat } ∧
    s.setStack .af w = { s with a := BitVec.ofNat 8 (w.toNat / 256), f := (s.setStack .af w).f } ∧
    (s.setStack .af w).f.toByte = BitVec.ofNat 8 w.toNat &&& 0xF0

/-! ## The memory decoder -/

/-- What a read finds outside the I/O window (20_memory.md R52, R53, R55, R56, R57, R58, R59, R69, R70). Marked by the
spec as its own: R53 (D28), R56 (D6), R58 (D34, general knowledge), R59 (D35), R70 (D17). -/
def Obligations.ReadMap : Prop :=
  ∀ (s : State) (a : Word),
    (a.toNat < 0x100 → s.bootLocked = false → busRead s a = .byte (s.boot.read a.toNat)) ∧
    (a.toNat < 0x8000 → (a.toNat < 0x100 → s.bootLocked = true) →
      busRead s a = if a.toNat < s.romLen then .byte (s.rom.read a.toNat) else .outOfBounds) ∧
    (0x8000 ≤ a.toNat → a.toNat < 0xE000 → busRead s a = .byte (s.ram.read a.toNat)) ∧
    (0xE000 ≤ a.toNat → a.toNat < 0xFE00 → busRead s a = busRead s (a - 0x2000)) ∧
    (0xFE00 ≤ a.toNat → a.toNat < 0xFF00 → busRead s a = .outOfBounds) ∧
    (0xFF80 ≤ a.toNat → a.toNat < 0xFFFF → busRead s a = .byte (s.ram.read a.toNat)) ∧
    (a = 0xFFFF → busRead s a = .byte s.ier)

/-- What a read finds in the I/O window: IF always; for any `IO_STUB_SET` nothing outside it; with the default set the
scroll registers, LY, and a draw from every stub (20_memory.md R61, R62, R63, R64, R65, R67, R68). Marked by the spec
as its own: R62 (D15), R63 (D16), R64 (D14), R65 (D14, general knowledge), R67 (D17), R68 (D13). That a listed address
with no register of its own is a stub is the model's choice (log entry 6); the default set lists none. -/
def Obligations.IoReadMap : Prop :=
  ∀ s : State,
    busRead s 0xFF0F = .byte s.ifr ∧
    (∀ a : Word, 0xFF00 ≤ a.toNat → a.toNat < 0xFF80 → a ≠ 0xFF0F → inStubSet s.params a.toNat = false →
      busRead s a = .outOfBounds ∧ ∀ v, busWrite s a v = none) ∧
    (s.params.ioStubSet = defaultIoStubSet →
      busRead s 0xFF42 = .byte s.scy ∧ busRead s 0xFF43 = .byte s.scx ∧
      busRead s 0xFF44 = .byte (BitVec.ofNat 8 s.line) ∧ busRead s 0xFF50 = .draw ∧
      (∀ a : Word, a ∈ [0xFF40, 0xFF41, 0xFF47, 0xFF48, 0xFF49] ∨ (0xFF10 ≤ a.toNat ∧ a.toNat ≤ 0xFF26) ∨
        (0xFF30 ≤ a.toNat ∧ a.toNat ≤ 0xFF3F) → busRead s a = .draw ∧ ∀ v, busWrite s a v = some s) ∧
      (∀ a : Word, 0xFF00 ≤ a.toNat → a.toNat < 0xFF80 →
        (inStubSet s.params a.toNat = true ↔ (0xFF10 ≤ a.toNat ∧ a.toNat ≤ 0xFF26) ∨
          (0xFF30 ≤ a.toNat ∧ a.toNat ≤ 0xFF3F) ∨ (0xFF40 ≤ a.toNat ∧ a.toNat ≤ 0xFF44) ∨
          (0xFF47 ≤ a.toNat ∧ a.toNat ≤ 0xFF49) ∨ a.toNat = 0xFF50)))

/-- What a write does at every address: below 0x8000 nothing, or `OutOfBounds` under `ROM_WRITE` = `Fault`; in the
read-write memory one cell; in the hole and at an I/O address that is neither IF nor in `IO_STUB_SET` `OutOfBounds`; at
the storage bytes that byte. With the default `IO_STUB_SET`, address by address: the scroll registers are written, LY
and the stubs take the write with no effect, the boot-lock register locks on bit 0 = 1, every other I/O address but IF
is `OutOfBounds` (20_memory.md R54, R55, R56, R57, R58, R59, R61, R62, R63, R64, R65, R66, R67, R68, R69, R70). Marked
by the spec as its own: R54 (D12), R56 (D6), R58 (D34, general knowledge), R59 (D35), R62 (D15), R63 (D16), R64 (D14),
R65 (D14, general knowledge), R66 (D14, general knowledge), R67 (D17), R68 (D13), R70 (D17). -/
def Obligations.WriteMap : Prop :=
  ∀ (s : State) (a : Word) (v : Byte),
    (a.toNat < 0x8000 → busWrite s a v = if s.params.romWrite = .ignore then some s else none) ∧
    ((0x8000 ≤ a.toNat ∧ a.toNat < 0xE000) ∨ (0xFF80 ≤ a.toNat ∧ a.toNat < 0xFFFF) →
      busWrite s a v = some { s with ram := s.ram.write a.toNat v }) ∧
    (0xE000 ≤ a.toNat → a.toNat < 0xFE00 → busWrite s a v = busWrite s (a - 0x2000) v) ∧
    (0xFE00 ≤ a.toNat → a.toNat < 0xFF00 → busWrite s a v = none) ∧
    (a = 0xFF0F → busWrite s a v = some { s with ifr := v }) ∧
    (a = 0xFFFF → busWrite s a v = some { s with ier := v }) ∧
    (0xFF00 ≤ a.toNat → a.toNat < 0xFF80 → a ≠ 0xFF0F → inStubSet s.params a.toNat = false →
      busWrite s a v = none) ∧
    (s.params.ioStubSet = defaultIoStubSet →
      (a = 0xFF42 → busWrite s a v = some { s with scy := v }) ∧
      (a = 0xFF43 → busWrite s a v = some { s with scx := v }) ∧ (a = 0xFF44 → busWrite s a v = some s) ∧
      (a = 0xFF50 → busWrite s a v = some (if v.getLsbD 0 then { s with bootLocked := true } else s)) ∧
      ((0xFF10 ≤ a.toNat ∧ a.toNat ≤ 0xFF26) ∨ (0xFF30 ≤ a.toNat ∧ a.toNat ≤ 0xFF3F) ∨
        a ∈ [0xFF40, 0xFF41, 0xFF47, 0xFF48, 0xFF49] → busWrite s a v = some s) ∧
      ((0xFF00 ≤ a.toNat ∧ a.toNat ≤ 0xFF0E) ∨ (0xFF27 ≤ a.toNat ∧ a.toNat ≤ 0xFF2F) ∨
        (0xFF45 ≤ a.toNat ∧ a.toNat ≤ 0xFF46) ∨ (0xFF4A ≤ a.toNat ∧ a.toNat ≤ 0xFF4F) ∨
        (0xFF51 ≤ a.toNat ∧ a.toNat ≤ 0xFF7F) → busWrite s a v = none))

/-- A byte written to read-write memory, to the storage bytes or to the scroll registers is the byte read back, through
either alias of work RAM, for stores in canonical form (20_memory.md R55, R56, R57, R58, R67, R69, R70). Marked by the
spec as its own: R56 (D6), R58 (D34, general knowledge), R67 (D17), R70 (D17). -/
def Obligations.ReadAfterWrite : Prop :=
  ∀ (s : State) (a b : Word) (v : Byte), s.ram.wf = true → cellOf b = cellOf a →
    (0x8000 ≤ a.toNat ∧ a.toNat < 0xFE00) ∨ 0xFF80 ≤ a.toNat ∨ a = 0xFF0F ∨
      (s.params.ioStubSet = defaultIoStubSet ∧ (a = 0xFF42 ∨ a = 0xFF43)) →
    writable s a = true ∧ busRead (afterWrite s a v) b = .byte v

/-- A write changes what a read finds only at its own cell, and in the overlay's range where it is the boot-lock
register (20_memory.md R51, R58, R78). Marked by the spec as its own: R58 (D34, general knowledge), R78 (derived), R51
(general knowledge). -/
def Obligations.WriteFrame : Prop :=
  ∀ (s : State) (a b : Word) (v : Byte), ¬ touches a b → busRead (afterWrite s a v) b = busRead s b

/-- The boot-lock register: bit 0 written 1 locks, bit 0 written 0 changes nothing, a second write changes nothing, and
a locked overlay's range reads ROM (20_memory.md R52, R66). Marked by the spec as its own: R66 (D14, general
knowledge). -/
def Obligations.BootLockWrite : Prop :=
  ∀ (s : State) (v : Byte), s.params.ioStubSet = defaultIoStubSet →
    writable s 0xFF50 = true ∧
    (v.getLsbD 0 = true → afterWrite s 0xFF50 v = { s with bootLocked := true }) ∧
    (v.getLsbD 0 = false → afterWrite s 0xFF50 v = s) ∧
    (s.bootLocked = true → afterWrite s 0xFF50 v = s) ∧
    (v.getLsbD 0 = true → ∀ a : Word, a.toNat < 0x100 → a.toNat < s.romLen →
      busRead (afterWrite s 0xFF50 v) a = .byte (s.rom.read a.toNat))

/-- A word access is two byte accesses, the low byte first, the second address modulo 2^16; the first that no region
answers ends it (20_memory.md R71, R72). Marked by the spec as its own: R71 (D25), R72 (D25). The state left where an
access is not answered, the first byte written or read, is the model's own (log entry 7, D26). -/
def Obligations.WordAccesses : Prop :=
  ∀ (s : State) (a w : Word),
    (readable s a = true → readable s (a + 1) = true →
      memRead16 s a = .done (wordOf (valueAt (afterRead s a) (a + 1)) (valueAt s a))
        (afterRead (afterRead s a) (a + 1))) ∧
    (readable s a = false → memRead16 s a = .exit (.outOfBounds a .read) s) ∧
    (readable s a = true → readable s (a + 1) = false →
      memRead16 s a = .exit (.outOfBounds (a + 1) .read) (afterRead s a)) ∧
    (writable s a = true → writable s (a + 1) = true →
      memWrite16 s a w =
        .done () (afterWrite (afterWrite s a (BitVec.ofNat 8 w.toNat)) (a + 1) (BitVec.ofNat 8 (w.toNat / 256)))) ∧
    (writable s a = false → memWrite16 s a w = .exit (.outOfBounds a .write) s) ∧
    (writable s a = true → writable s (a + 1) = false →
      memWrite16 s a w = .exit (.outOfBounds (a + 1) .write) (afterWrite s a (BitVec.ofNat 8 w.toNat)))

/-- A read changes no state of the spec: only a stub's read takes the next draw, a free value (20_memory.md R64, R78;
log entry 4). Marked by the spec as its own: R64 (D14), R78 (derived). -/
def Obligations.ReadsChangeNothing : Prop :=
  ∀ (s t : State) (a : Word) (v : Byte), memRead s a = .done v t →
    (busRead s a = .byte v → t = s) ∧
    (busRead s a = .draw → v = Config.stubDraw s.drawCount ∧ t = { s with drawCount := s.drawCount + 1 }) ∧
    (busRead s a = .byte v ∨ busRead s a = .draw) ∧ ∀ b, busRead t b = busRead s b

/-- A word pushed and popped at once comes back, with SP as it was, wherever both stack bytes are read-write memory
(41_loads.md R130, R131). Marked by the spec as its own: R131 (derived). -/
def Obligations.PopAfterPush : Prop :=
  ∀ (s : State) (v : Word), s.ram.wf = true →
    (∀ a ∈ [s.sp - 2, s.sp - 1], (0x8000 ≤ a.toNat ∧ a.toNat < 0xFE00) ∨ 0xFF80 ≤ a.toNat) →
    ∃ t u, push16 s v = .done () t ∧ pop16 t = .done v u ∧ u.sp = s.sp ∧ t.sp = s.sp - 2

/-! ## Loads -/

/-- `LD r,r'`, `LD r,(HL)` and `LD (HL),r`: the bytes 01yyyzzz, the value, the cycles, and the exit where no region
answers HL (41_loads.md R132, R133, R134). -/
def Obligations.LoadRegisters : Prop :=
  ∀ (s : State) (y z : Fin 8), ¬ (y = 6 ∧ z = 6) →
    let i := instrLd (r8 y) (r8 z)
    encode i = [BitVec.ofNat 8 (0x40 + 8 * y.val + z.val)] ∧
    (srcReadable s (r8 z) = true → dstWritable s (r8 y) = true →
      exec i s = .next (retire 1 (if y = 6 ∨ z = 6 then 2 else 1)
        (dstAfter (srcAfter s (r8 z)) (r8 y) (srcValue s (r8 z))))) ∧
    (srcReadable s (r8 z) = false → Faults (exec i s) s s.hl .read) ∧
    (dstWritable s (r8 y) = false → Faults (exec i s) s s.hl .write)

/-- `LD r,d8` and `LD (HL),d8` (41_loads.md R135, R136). -/
def Obligations.LoadImmediates : Prop :=
  ∀ (s : State) (y : Fin 8) (n : Byte),
    let i := instrLdImm (r8 y) n
    encode i = [BitVec.ofNat 8 (8 * y.val + 6), n] ∧
    (dstWritable s (r8 y) = true → exec i s = .next (retire 2 (if y = 6 then 3 else 2) (dstAfter s (r8 y) n))) ∧
    (dstWritable s (r8 y) = false → Faults (exec i s) s s.hl .write)

/-- The loads of A from BC, DE, HL+, HL-, a16, 0xFF00 + a8 and 0xFF00 + C (41_loads.md R137, R138, R141, R142, R145,
R147, R149). -/
def Obligations.LoadAccumulator : Prop :=
  ∀ (s : State) (a : Word) (n : Byte),
    let high (b : Byte) : Word := BitVec.ofNat 16 (0xFF00 + b.toNat)
    let loads (i : Instr) (addr : Word) (len cyc : Nat) (after : State → State) : Prop :=
      (readable s addr = true →
        exec i s = .next (retire len cyc (after { afterRead s addr with a := valueAt s addr }))) ∧
      (readable s addr = false → Faults (exec i s) s addr .read)
    loads .ld_A_atBC s.bc 1 2 id ∧ loads .ld_A_atDE s.de 1 2 id ∧
    loads .ld_A_atHLi s.hl 1 2 (fun t => { t with h := hiByte (s.hl + 1), l := loByte (s.hl + 1) }) ∧
    loads .ld_A_atHLd s.hl 1 2 (fun t => { t with h := hiByte (s.hl - 1), l := loByte (s.hl - 1) }) ∧
    loads (.ld_A_atA16 a) a 3 4 id ∧ loads (.ldh_A_atA8 n) (high n) 2 3 id ∧ loads .ld_A_atC (high s.c) 1 2 id ∧
    encode .ld_A_atBC = [0x0A] ∧ encode .ld_A_atDE = [0x1A] ∧ encode .ld_A_atHLi = [0x2A] ∧
    encode .ld_A_atHLd = [0x3A] ∧ encode (.ld_A_atA16 a) = [0xFA, loByte a, hiByte a] ∧
    encode (.ldh_A_atA8 n) = [0xF0, n] ∧ encode .ld_A_atC = [0xF2]

/-- The stores of A to BC, DE, HL+, HL-, a16, 0xFF00 + a8 and 0xFF00 + C (41_loads.md R139, R140, R143, R144, R146,
R148, R150). -/
def Obligations.StoreAccumulator : Prop :=
  ∀ (s : State) (a : Word) (n : Byte),
    let high (b : Byte) : Word := BitVec.ofNat 16 (0xFF00 + b.toNat)
    let stores (i : Instr) (addr : Word) (len cyc : Nat) (after : State → State) : Prop :=
      (writable s addr = true → exec i s = .next (retire len cyc (after (afterWrite s addr s.a)))) ∧
      (writable s addr = false → Faults (exec i s) s addr .write)
    stores .ld_atBC_A s.bc 1 2 id ∧ stores .ld_atDE_A s.de 1 2 id ∧
    stores .ld_atHLi_A s.hl 1 2 (fun t => { t with h := hiByte (s.hl + 1), l := loByte (s.hl + 1) }) ∧
    stores .ld_atHLd_A s.hl 1 2 (fun t => { t with h := hiByte (s.hl - 1), l := loByte (s.hl - 1) }) ∧
    stores (.ld_atA16_A a) a 3 4 id ∧ stores (.ldh_atA8_A n) (high n) 2 3 id ∧ stores .ld_atC_A (high s.c) 1 2 id ∧
    encode .ld_atBC_A = [0x02] ∧ encode .ld_atDE_A = [0x12] ∧ encode .ld_atHLi_A = [0x22] ∧
    encode .ld_atHLd_A = [0x32] ∧ encode (.ld_atA16_A a) = [0xEA, loByte a, hiByte a] ∧
    encode (.ldh_atA8_A n) = [0xE0, n] ∧ encode .ld_atC_A = [0xE2]

/-- `LD rr,d16`, `LD (a16),SP` and `LD SP,HL` (41_loads.md R151, R152, R153). -/
def Obligations.LoadWords : Prop :=
  ∀ (s : State) (p : Fin 4) (w : Word),
    encode (instrLdWord (r16 p) w) = [BitVec.ofNat 8 (16 * p.val + 1), loByte w, hiByte w] ∧
    exec (instrLdWord (r16 p) w) s = .next (retire 3 3 (s.setR16 (r16 p) w)) ∧
    encode (.ld_atA16_SP w) = [0x08, loByte w, hiByte w] ∧
    (writable16 s w = true → exec (.ld_atA16_SP w) s = .next (retire 3 5 (afterWrite16 s w s.sp))) ∧
    (writable s w = false → Faults (exec (.ld_atA16_SP w) s) s w .write) ∧
    (writable s w = true → writable s (w + 1) = false → Faults (exec (.ld_atA16_SP w) s) s (w + 1) .write) ∧
    encode .ld_SP_HL = [0xF9] ∧ exec .ld_SP_HL s = .next (retire 1 2 { s with sp := s.hl })

/-- `PUSH rr` and `POP rr` (41_loads.md R130, R131, R154, R155, R156): SP goes down by 2 before the store and up by 2
after the load. -/
def Obligations.PushAndPop : Prop :=
  ∀ (s : State) (p : Fin 4),
    let down := { s with sp := s.sp - 2 }
    encode (instrPush (r16stk p)) = [BitVec.ofNat 8 (0xC5 + 16 * p.val)] ∧
    (writable16 s (s.sp - 2) = true →
      exec (instrPush (r16stk p)) s = .next (retire 1 4 (afterWrite16 down (s.sp - 2) (s.getStack (r16stk p))))) ∧
    (writable s (s.sp - 2) = false → Faults (exec (instrPush (r16stk p)) s) s (s.sp - 2) .write) ∧
    (writable s (s.sp - 2) = true → writable s (s.sp - 1) = false →
      Faults (exec (instrPush (r16stk p)) s) s (s.sp - 1) .write) ∧
    encode (instrPop (r16stk p)) = [BitVec.ofNat 8 (0xC1 + 16 * p.val)] ∧
    (readable16 s s.sp = true →
      exec (instrPop (r16stk p)) s =
        .next (retire 1 3 (State.setStack { afterRead16 s s.sp with sp := s.sp + 2 } (r16stk p) (value16 s s.sp)))) ∧
    (readable s s.sp = false → Faults (exec (instrPop (r16stk p)) s) s s.sp .read) ∧
    (readable s s.sp = true → readable s (s.sp + 1) = false →
      Faults (exec (instrPop (r16stk p)) s) s (s.sp + 1) .read)

/-! ## 8-bit arithmetic and logic -/

/-- The half-carries under `HC_POLICY` = `Nibble` are carries out of, and borrows into, bit 3, and of `hcAdd16` bit 11
(42_alu8.md R161). Marked by the spec as its own: R161 (D1). -/
def Obligations.HalfCarries : Prop :=
  ∀ (a b : Byte) (x y : Word),
    hcAdd8 .nibble a b = decide (a.toNat % 16 + b.toNat % 16 ≥ 16) ∧
    hcSub8 .nibble a b = decide (b.toNat % 16 > a.toNat % 16) ∧
    hcInc8 .nibble a = decide (a.toNat % 16 = 15) ∧ hcDec8 .nibble a = decide (a.toNat % 16 = 0) ∧
    hcAdd16 .nibble x y = decide (x.toNat % 4096 + y.toNat % 4096 ≥ 4096)

/-- ADD and ADC in their three forms: the carry is folded into the operand with an 8-bit wrap before the sum
(42_alu8.md R162, R164, R165, R168 to R173). Marked by the spec as its own: R162, R164 (general knowledge). -/
def Obligations.AddAndAdc : Prop :=
  ∀ (s : State) (z : Fin 8) (n : Byte),
    let o := r8 z
    let cyc := if z = 6 then 2 else 1
    let sum (t : State) (v : Byte) : State :=
      { t with a := BitVec.ofNat 8 (s.a.toNat + v.toNat), f := addFlags s.params.hcPolicy s.a v }
    encode (instrAlu .add o) = [BitVec.ofNat 8 (0x80 + z.val)] ∧
    encode (instrAlu .adc o) = [BitVec.ofNat 8 (0x88 + z.val)] ∧
    encode (instrAluImm .add n) = [0xC6, n] ∧ encode (instrAluImm .adc n) = [0xCE, n] ∧
    (srcReadable s o = true →
      exec (instrAlu .add o) s = .next (retire 1 cyc (sum (srcAfter s o) (srcValue s o))) ∧
      exec (instrAlu .adc o) s = .next (retire 1 cyc (sum (srcAfter s o) (withCarry s.f (srcValue s o))))) ∧
    (srcReadable s o = false →
      Faults (exec (instrAlu .add o) s) s s.hl .read ∧ Faults (exec (instrAlu .adc o) s) s s.hl .read) ∧
    exec (instrAluImm .add n) s = .next (retire 2 2 (sum s n)) ∧
    exec (instrAluImm .adc n) s = .next (retire 2 2 (sum s (withCarry s.f n)))

/-- SUB, SBC and CP in their three forms; CP does not write A (42_alu8.md R163, R164, R174 to R179, R189 to R191).
Marked by the spec as its own: R163, R164 (general knowledge). -/
def Obligations.SubSbcAndCp : Prop :=
  ∀ (s : State) (z : Fin 8) (n : Byte),
    let o := r8 z
    let cyc := if z = 6 then 2 else 1
    let flags (t : State) (v : Byte) : State := { t with f := subFlags s.params.hcPolicy s.a v }
    let difference (t : State) (v : Byte) : State :=
      { flags t v with a := BitVec.ofNat 8 (s.a.toNat + 256 - v.toNat) }
    encode (instrAlu .sub o) = [BitVec.ofNat 8 (0x90 + z.val)] ∧
    encode (instrAlu .sbc o) = [BitVec.ofNat 8 (0x98 + z.val)] ∧
    encode (instrAlu .cp o) = [BitVec.ofNat 8 (0xB8 + z.val)] ∧
    encode (instrAluImm .sub n) = [0xD6, n] ∧ encode (instrAluImm .sbc n) = [0xDE, n] ∧
    encode (instrAluImm .cp n) = [0xFE, n] ∧
    (srcReadable s o = true →
      exec (instrAlu .sub o) s = .next (retire 1 cyc (difference (srcAfter s o) (srcValue s o))) ∧
      exec (instrAlu .sbc o) s = .next (retire 1 cyc (difference (srcAfter s o) (withCarry s.f (srcValue s o)))) ∧
      exec (instrAlu .cp o) s = .next (retire 1 cyc (flags (srcAfter s o) (srcValue s o)))) ∧
    (srcReadable s o = false →
      Faults (exec (instrAlu .sub o) s) s s.hl .read ∧ Faults (exec (instrAlu .sbc o) s) s s.hl .read ∧
      Faults (exec (instrAlu .cp o) s) s s.hl .read) ∧
    exec (instrAluImm .sub n) s = .next (retire 2 2 (difference s n)) ∧
    exec (instrAluImm .sbc n) s = .next (retire 2 2 (difference s (withCarry s.f n))) ∧
    exec (instrAluImm .cp n) s = .next (retire 2 2 (flags s n))

/-- AND, XOR and OR in their three forms: AND sets H, the others clear it, all clear N and C (42_alu8.md R180 to
R188). -/
def Obligations.BitwiseOperations : Prop :=
  ∀ (s : State) (z : Fin 8) (n : Byte),
    let o := r8 z
    let cyc := if z = 6 then 2 else 1
    let result (h : Bool) (t : State) (r : Byte) : State := { t with a := r, f := bitwiseFlags h r }
    encode (instrAlu .and o) = [BitVec.ofNat 8 (0xA0 + z.val)] ∧
    encode (instrAlu .xor o) = [BitVec.ofNat 8 (0xA8 + z.val)] ∧
    encode (instrAlu .or o) = [BitVec.ofNat 8 (0xB0 + z.val)] ∧
    encode (instrAluImm .and n) = [0xE6, n] ∧ encode (instrAluImm .xor n) = [0xEE, n] ∧
    encode (instrAluImm .or n) = [0xF6, n] ∧
    (srcReadable s o = true →
      exec (instrAlu .and o) s = .next (retire 1 cyc (result true (srcAfter s o) (s.a &&& srcValue s o))) ∧
      exec (instrAlu .xor o) s = .next (retire 1 cyc (result false (srcAfter s o) (s.a ^^^ srcValue s o))) ∧
      exec (instrAlu .or o) s = .next (retire 1 cyc (result false (srcAfter s o) (s.a ||| srcValue s o)))) ∧
    (srcReadable s o = false →
      Faults (exec (instrAlu .and o) s) s s.hl .read ∧ Faults (exec (instrAlu .xor o) s) s s.hl .read ∧
      Faults (exec (instrAlu .or o) s) s s.hl .read) ∧
    exec (instrAluImm .and n) s = .next (retire 2 2 (result true s (s.a &&& n))) ∧
    exec (instrAluImm .xor n) s = .next (retire 2 2 (result false s (s.a ^^^ n))) ∧
    exec (instrAluImm .or n) s = .next (retire 2 2 (result false s (s.a ||| n)))

/-- INC and DEC of a register or the byte at HL: one read, then one write, C kept (42_alu8.md R192 to R195). Marked by
the spec as its own: R192, R194 (general knowledge). -/
def Obligations.IncAndDec8 : Prop :=
  ∀ (s : State) (y : Fin 8),
    let o := r8 y
    let v := srcValue s o
    let cyc := if y = 6 then 3 else 1
    encode (instrInc8 o) = [BitVec.ofNat 8 (8 * y.val + 4)] ∧ encode (instrDec8 o) = [BitVec.ofNat 8 (8 * y.val + 5)] ∧
    (srcReadable s o = true → dstWritable s o = true →
      exec (instrInc8 o) s = .next (retire 1 cyc
        { dstAfter (srcAfter s o) o (BitVec.ofNat 8 (v.toNat + 1)) with
          f := ⟨decide (v.toNat = 255), false, hcInc8 s.params.hcPolicy v, s.f.c⟩ }) ∧
      exec (instrDec8 o) s = .next (retire 1 cyc
        { dstAfter (srcAfter s o) o (BitVec.ofNat 8 (v.toNat + 255)) with
          f := ⟨decide (v.toNat = 1), true, hcDec8 s.params.hcPolicy v, s.f.c⟩ })) ∧
    (srcReadable s o = false →
      Faults (exec (instrInc8 o) s) s s.hl .read ∧ Faults (exec (instrDec8 o) s) s s.hl .read) ∧
    (srcReadable s o = true → dstWritable s o = false →
      Faults (exec (instrInc8 o) s) s s.hl .write ∧ Faults (exec (instrDec8 o) s) s s.hl .write)

/-- DAA, CPL, SCF and CCF (42_alu8.md R196, R197, R198, R199). Marked by the spec as its own: R196, R197, R198, R199
(general knowledge). -/
def Obligations.AccumulatorAdjustments : Prop :=
  ∀ s : State,
    let a := s.a.toNat
    let high := s.f.c = true ∨ a > 0x99
    let a1 := if s.f.n = false then (if high then (a + 0x60) % 256 else a)
      else if s.f.c = true then (a + 256 - 0x60) % 256 else a
    let a2 := if s.f.n = false then (if s.f.h = true ∨ a1 % 16 > 9 then (a1 + 0x06) % 256 else a1)
      else if s.f.h = true then (a1 + 256 - 0x06) % 256 else a1
    encode .daa = [0x27] ∧ encode .cpl = [0x2F] ∧ encode .scf = [0x37] ∧ encode .ccf = [0x3F] ∧
    exec .daa s = .next (retire 1 1
      { s with
        a := BitVec.ofNat 8 a2
        f := ⟨decide (a2 = 0), s.f.n, false, if s.f.n = false then decide high else s.f.c⟩ }) ∧
    exec .cpl s = .next (retire 1 1
      { s with a := BitVec.ofNat 8 (255 - a), f := ⟨s.f.z, true, true, s.f.c⟩ }) ∧
    exec .scf s = .next (retire 1 1 { s with f := ⟨s.f.z, false, false, true⟩ }) ∧
    exec .ccf s = .next (retire 1 1 { s with f := ⟨s.f.z, false, false, !s.f.c⟩ })

/-! ## 16-bit arithmetic -/

/-- INC rr, DEC rr, ADD HL,rr, ADD SP,e8 and LD HL,SP+e8: the first two write no flag, ADD HL keeps Z, and the offset
is signed in the sum and unsigned in the flags (43_alu16.md R200 to R206). Marked by the spec as its own: R201 (D2,
general knowledge), R202, R203, R204 (general knowledge). -/
def Obligations.Arithmetic16 : Prop :=
  ∀ (s : State) (p : Fin 4) (e : Byte),
    let v := (s.getR16 (r16 p)).toNat
    let sum := BitVec.ofNat 16 (s.hl.toNat + v)
    let moved := BitVec.ofNat 16 (s.sp.toNat + signExtended e)
    encode (instrInc16 (r16 p)) = [BitVec.ofNat 8 (16 * p.val + 0x03)] ∧
    encode (instrDec16 (r16 p)) = [BitVec.ofNat 8 (16 * p.val + 0x0B)] ∧
    encode (instrAddHL (r16 p)) = [BitVec.ofNat 8 (16 * p.val + 0x09)] ∧
    encode (.add_SP_e8 e) = [0xE8, e] ∧ encode (.ld_HL_SPe8 e) = [0xF8, e] ∧
    exec (instrInc16 (r16 p)) s = .next (retire 1 2 (s.setR16 (r16 p) (BitVec.ofNat 16 (v + 1)))) ∧
    exec (instrDec16 (r16 p)) s = .next (retire 1 2 (s.setR16 (r16 p) (BitVec.ofNat 16 (v + 65535)))) ∧
    exec (instrAddHL (r16 p)) s = .next (retire 1 2
      { s with
        h := hiByte sum
        l := loByte sum
        f := ⟨s.f.z, false, hcAdd16 s.params.hcPolicy s.hl (s.getR16 (r16 p)), decide (s.hl.toNat + v > 0xFFFF)⟩ }) ∧
    exec (.add_SP_e8 e) s = .next (retire 2 4
      { s with sp := moved, f := offsetFlags s.params.spOffsetFlags s.sp e }) ∧
    exec (.ld_HL_SPe8 e) s = .next (retire 2 3
      { s with h := hiByte moved, l := loByte moved, f := offsetFlags s.params.spOffsetFlags s.sp e })

/-! ## Rotates, shifts, bits -/

/-- RLCA, RRCA, RLA and RRA, with Z by `ACC_ROT_Z` (44_rotate_shift_bit.md R215 to R219). Marked by the spec as its
own: R215 (D3, general knowledge). -/
def Obligations.AccumulatorRotates : Prop :=
  ∀ s : State,
    let rotates (i : Instr) (op : Byte) (r : Nat) (out : Nat) : Prop :=
      encode i = [op] ∧
      exec i s = .next (retire 1 1
        { s with
          a := BitVec.ofNat 8 r
          f := ⟨decide (s.params.accRotZ = .fromResult ∧ r = 0), false, false, decide (out = 1)⟩ })
    let v := s.a.toNat
    rotates .rlca 0x07 (v * 2 % 256 + v / 128) (v / 128) ∧ rotates .rrca 0x0F (v / 2 + v % 2 * 128) (v % 2) ∧
    rotates .rla 0x17 (v * 2 % 256 + s.f.c.toNat) (v / 128) ∧
    rotates .rra 0x1F (v / 2 + s.f.c.toNat * 128) (v % 2)

/-- The eight extended shifts, of a register or the byte at HL: the bytes 0xCB 00yyyzzz, the result and the bit shifted
out, Z from the result, N and H clear (44_rotate_shift_bit.md R220 to R236; the number y names the operation as
30_encoding.md R98 does). Marked by the spec as its own: R229, R230, R231, R232, R98 (general knowledge). -/
def Obligations.ExtendedShifts : Prop :=
  ∀ (s : State) (y z : Fin 8),
    let o := r8 z
    let i := instrShift (shiftOp y) o
    let r := shifted y s.f.c (srcValue s o).toNat
    encode i = [0xCB, BitVec.ofNat 8 (8 * y.val + z.val)] ∧
    (srcReadable s o = true → dstWritable s o = true →
      exec i s = .next (retire 2 (if z = 6 then 4 else 2)
        { dstAfter (srcAfter s o) o (BitVec.ofNat 8 r.1) with f := ⟨decide (r.1 = 0), false, false, r.2⟩ })) ∧
    (srcReadable s o = false → Faults (exec i s) s s.hl .read) ∧
    (srcReadable s o = true → dstWritable s o = false → Faults (exec i s) s s.hl .write)

/-- BIT, RES and SET of a register or the byte at HL: BIT writes Z alone, RES and SET no flag (44_rotate_shift_bit.md
R237 to R242). Marked by the spec as its own: R237, R239, R240, R241, R242 (general knowledge). -/
def Obligations.BitResAndSet : Prop :=
  ∀ (s : State) (y z : Fin 8),
    let o := r8 z
    let v := (srcValue s o).toNat
    let bit := v / 2 ^ y.val % 2
    let rest := v - bit * 2 ^ y.val
    let cyc := if z = 6 then 4 else 2
    encode (instrBit y o) = [0xCB, BitVec.ofNat 8 (0x40 + 8 * y.val + z.val)] ∧
    encode (instrRes y o) = [0xCB, BitVec.ofNat 8 (0x80 + 8 * y.val + z.val)] ∧
    encode (instrSet y o) = [0xCB, BitVec.ofNat 8 (0xC0 + 8 * y.val + z.val)] ∧
    (srcReadable s o = true →
      exec (instrBit y o) s = .next (retire 2 (if z = 6 then 3 else 2)
        { srcAfter s o with f := ⟨decide (bit = 0), s.f.n, s.f.h, s.f.c⟩ })) ∧
    (srcReadable s o = true → dstWritable s o = true →
      exec (instrRes y o) s = .next (retire 2 cyc (dstAfter (srcAfter s o) o (BitVec.ofNat 8 rest))) ∧
      exec (instrSet y o) s =
        .next (retire 2 cyc (dstAfter (srcAfter s o) o (BitVec.ofNat 8 (rest + 2 ^ y.val))))) ∧
    (srcReadable s o = false →
      Faults (exec (instrBit y o) s) s s.hl .read ∧ Faults (exec (instrRes y o) s) s s.hl .read ∧
      Faults (exec (instrSet y o) s) s s.hl .read) ∧
    (srcReadable s o = true → dstWritable s o = false →
      Faults (exec (instrRes y o) s) s s.hl .write ∧ Faults (exec (instrSet y o) s) s s.hl .write)

/-! ## Control transfer -/

/-- The jumps: the target, the taken and the not-taken counts; a relative target is relative to the address after the
instruction (45_control_transfer.md R245 to R250). Marked by the spec as its own: R249 (D22). -/
def Obligations.Jumps : Prop :=
  ∀ (s : State) (i : Fin 4) (a : Word) (e : Byte),
    let target := BitVec.ofNat 16 (s.pc.toNat + 2 + signExtended e)
    encode (.jp_a16 a) = [0xC3, loByte a, hiByte a] ∧ exec (.jp_a16 a) s = .next (retire 0 4 { s with pc := a }) ∧
    encode (instrJpCc (cc i) a) = [BitVec.ofNat 8 (0xC2 + 8 * i.val), loByte a, hiByte a] ∧
    (condHolds i s.f → exec (instrJpCc (cc i) a) s = .next (retire 0 4 { s with pc := a })) ∧
    (¬ condHolds i s.f → exec (instrJpCc (cc i) a) s = .next (retire 3 3 s)) ∧
    encode .jp_HL = [0xE9] ∧ exec .jp_HL s = .next (retire 0 1 { s with pc := s.hl }) ∧
    encode (.jr_e8 e) = [0x18, e] ∧ exec (.jr_e8 e) s = .next (retire 0 3 { s with pc := target }) ∧
    encode (instrJrCc (cc i) e) = [BitVec.ofNat 8 (0x20 + 8 * i.val), e] ∧
    (condHolds i s.f → exec (instrJrCc (cc i) e) s = .next (retire 0 3 { s with pc := target })) ∧
    (¬ condHolds i s.f → exec (instrJrCc (cc i) e) s = .next (retire 2 2 s))

/-- Calls and restarts: the address after the instruction is pushed, then pc is the target; a call not taken touches no
stack (45_control_transfer.md R245, R251, R252, R256). -/
def Obligations.CallsAndRestarts : Prop :=
  ∀ (s : State) (i : Fin 4) (y : Fin 8) (a : Word),
    let pushed (len : Nat) : State :=
      afterWrite16 { s with sp := s.sp - 2 } (s.sp - 2) (BitVec.ofNat 16 (s.pc.toNat + len))
    let stackFaults (k : Instr) : Prop :=
      (writable s (s.sp - 2) = false → Faults (exec k s) s (s.sp - 2) .write) ∧
      (writable s (s.sp - 2) = true → writable s (s.sp - 1) = false → Faults (exec k s) s (s.sp - 1) .write)
    encode (.call_a16 a) = [0xCD, loByte a, hiByte a] ∧
    (writable16 s (s.sp - 2) = true → exec (.call_a16 a) s = .next (retire 0 6 { pushed 3 with pc := a })) ∧
    stackFaults (.call_a16 a) ∧
    encode (instrCallCc (cc i) a) = [BitVec.ofNat 8 (0xC4 + 8 * i.val), loByte a, hiByte a] ∧
    (condHolds i s.f → writable16 s (s.sp - 2) = true →
      exec (instrCallCc (cc i) a) s = .next (retire 0 6 { pushed 3 with pc := a })) ∧
    (condHolds i s.f → stackFaults (instrCallCc (cc i) a)) ∧
    (¬ condHolds i s.f → exec (instrCallCc (cc i) a) s = .next (retire 3 3 s)) ∧
    encode (instrRst y) = [BitVec.ofNat 8 (0xC7 + 8 * y.val)] ∧
    (writable16 s (s.sp - 2) = true →
      exec (instrRst y) s = .next (retire 0 4 { pushed 1 with pc := BitVec.ofNat 16 (8 * y.val) })) ∧
    stackFaults (instrRst y)

/-- Returns: pc is the popped word; RETI sets IME after the pop; a return not taken touches no stack
(45_control_transfer.md R245, R253, R254, R255). Marked by the spec as its own: R255 (general knowledge). -/
def Obligations.Returns : Prop :=
  ∀ (s : State) (i : Fin 4),
    let popped : State := { afterRead16 s s.sp with sp := s.sp + 2, pc := value16 s s.sp }
    let stackFaults (k : Instr) : Prop :=
      (readable s s.sp = false → Faults (exec k s) s s.sp .read) ∧
      (readable s s.sp = true → readable s (s.sp + 1) = false → Faults (exec k s) s (s.sp + 1) .read)
    encode .ret = [0xC9] ∧ (readable16 s s.sp = true → exec .ret s = .next (retire 0 4 popped)) ∧ stackFaults .ret ∧
    encode .reti = [0xD9] ∧
    (readable16 s s.sp = true → exec .reti s = .next (retire 0 4 { popped with ime := true })) ∧ stackFaults .reti ∧
    encode (instrRetCc (cc i)) = [BitVec.ofNat 8 (0xC0 + 8 * i.val)] ∧
    (condHolds i s.f → readable16 s s.sp = true → exec (instrRetCc (cc i)) s = .next (retire 0 5 popped)) ∧
    (condHolds i s.f → stackFaults (instrRetCc (cc i))) ∧
    (¬ condHolds i s.f → exec (instrRetCc (cc i)) s = .next (retire 1 2 s))

/-! ## System -/

/-- NOP, DI and EI (46_system.md R265, R268, R269). Marked by the spec as its own: R268, R269 (general knowledge). -/
def Obligations.NopDiAndEi : Prop :=
  ∀ s : State,
    encode .nop = [0x00] ∧ exec .nop s = .next (retire 1 1 s) ∧
    encode .di = [0xF3] ∧ exec .di s = .next (retire 1 1 { s with ime := false }) ∧
    encode .ei = [0xFB] ∧ exec .ei s = .next (retire 1 1 { s with ime := true })

/-- HALT and STOP end the run: the exit record is taken, with the address of the instruction, or one past it under
`HALT_PC_ADVANCE`; nothing else changes, no tick is reported (46_system.md R266, R267, 40_execution_loop.md R117, R118,
60_exceptions.md R333, R338). Marked by the spec as its own: R266 (D9, general knowledge), R267 (D32, general
knowledge), R117 (D9), R118 (D9), R338 (D26). That `HALT_PC_ADVANCE` moves the recorded address alone is the model's
reading (log entry 12). -/
def Obligations.HaltAndStopEndTheRun : Prop :=
  ∀ s : State,
    let pc := if s.params.haltPcAdvance then BitVec.ofNat 16 (s.pc.toNat + 1) else s.pc
    exec .halt s = .next { s with status := .exited .halt pc } ∧
    exec .stop s = .next { s with status := .exited .stop pc } ∧ encode .halt = [0x76] ∧ (encode .stop).head? = some 0x10

/-- The 11 opcodes with no instruction raise `Unimplemented` with the opcode, at the address of the opcode
(30_encoding.md R102, 46_system.md R271, 60_exceptions.md R332). Marked by the spec as its own: R102, R271 (general
knowledge). -/
def Obligations.IllegalOpcodes : Prop :=
  ∀ (s : State) (k : IllegalOp),
    ExitsWith (exec (instrIllegal k) s) (.unimplemented k.byte) s.pc ∧ encode (instrIllegal k) = [k.byte] ∧
    (∀ op : Byte, op ∈ [0xD3, 0xDB, 0xDD, 0xE3, 0xE4, 0xEB, 0xEC, 0xED, 0xF4, 0xFC, 0xFD] ↔ ∃ k : IllegalOp, k.byte = op)

/-- The prefix: the byte after it is read, and its extended instruction runs and counts both bytes; with no region
answering that byte, `OutOfBounds` (46_system.md R270, 30_encoding.md R98). Marked by the spec as its own: R98 (general
knowledge). A bare prefix as an instruction is the model's reading (log entry 8). -/
def Obligations.PrefixRunsExtended : Prop :=
  ∀ s : State,
    let cb := valueAt s (s.pc + 1)
    let t := afterRead s (s.pc + 1)
    (readable s (s.pc + 1) = true → exec .prefix_CB s = exec (decodeExtended cb) t) ∧
    (readable s (s.pc + 1) = true → cb.toNat % 8 ≠ 6 →
      ∃ u, exec .prefix_CB s = .next u ∧ u.pc = s.pc + 2 ∧ u.status = s.status) ∧
    (readable s (s.pc + 1) = true → cb.toNat % 8 = 6 → readable s s.hl = true → writable s s.hl = true →
      ∃ u, exec .prefix_CB s = .next u ∧ u.pc = s.pc + 2 ∧ u.status = s.status) ∧
    (readable s (s.pc + 1) = false → Faults (exec .prefix_CB s) s (s.pc + 1) .read)

/-! ## Frames: what a form leaves unchanged where it ends with the run going on -/

/-- Frame of the 8-bit forms that store nothing: the destination register is the only one written (A for the ALU, none
for CP, BIT, SCF and CCF, A and HL for the stepping loads), SP and IME are kept, and the flags besides those the rule
names (10_state.md R20, 42_alu8.md R160; 41_loads.md, 42_alu8.md, 44_rotate_shift_bit.md). -/
def Obligations.FrameOfByteForms : Prop :=
  ∀ (s t : State) (r : Reg8) (o : Operand8) (n b : Byte) (w : Word) (k : Fin 8) (op : AluOp) (sh : ShiftOp),
    let frame (i : Instr) (dest : List Reg8) (kept : Flags → Flags → Prop) : Prop :=
      RunsTo (exec i s) t → StoresNothing dest s t ∧ t.sp = s.sp ∧ t.ime = s.ime ∧ kept s.f t.f
    let all (f g : Flags) : Prop := g = f
    let none (_ _ : Flags) : Prop := True
    frame (instrLd (.reg r) o) [r] all ∧ frame (instrLdImm (.reg r) n) [r] all ∧
    frame .ld_A_atBC [.a] all ∧ frame .ld_A_atDE [.a] all ∧ frame .ld_A_atHLi [.a, .h, .l] all ∧
    frame .ld_A_atHLd [.a, .h, .l] all ∧ frame (.ld_A_atA16 w) [.a] all ∧ frame (.ldh_A_atA8 n) [.a] all ∧
    frame .ld_A_atC [.a] all ∧
    frame (instrAlu op o) (if op = .cp then [] else [.a]) none ∧
    frame (instrAluImm op b) (if op = .cp then [] else [.a]) none ∧
    frame (instrInc8 (.reg r)) [r] (fun f g => g.c = f.c) ∧ frame (instrDec8 (.reg r)) [r] (fun f g => g.c = f.c) ∧
    frame .daa [.a] (fun f g => g.n = f.n) ∧ frame .cpl [.a] (fun f g => g.z = f.z ∧ g.c = f.c) ∧
    frame .scf [] (fun f g => g.z = f.z) ∧ frame .ccf [] (fun f g => g.z = f.z) ∧
    frame .rlca [.a] none ∧ frame .rrca [.a] none ∧ frame .rla [.a] none ∧ frame .rra [.a] none ∧
    frame (instrShift sh (.reg r)) [r] none ∧
    frame (instrBit k o) [] (fun f g => g.n = f.n ∧ g.h = f.h ∧ g.c = f.c) ∧
    frame (instrRes k (.reg r)) [r] all ∧ frame (instrSet k (.reg r)) [r] all ∧ frame .nop [] all

/-- Frame of the 16-bit forms that store nothing, of DI and EI, and of the jumps: the registers of the destination
pair, or SP, or IME, or pc, and only ADD HL (not Z), ADD SP and LD HL,SP+e8 write flags (43_alu16.md R202 to R206,
41_loads.md R151, R153, 45_control_transfer.md R246 to R250, 46_system.md R268, R269). Marked by the spec as its own:
R249 (D22), R202, R203, R204, R268, R269 (general knowledge). -/
def Obligations.FrameOfWordForms : Prop :=
  ∀ (s t : State) (r : Reg16) (w : Word) (e : Byte) (j : Cond),
    let pair : List Reg8 := match r with
      | .bc => [.b, .c]
      | .de => [.d, .e]
      | .hl => [.h, .l]
      | .sp => []
    let frame (i : Instr) (dest : List Reg8) (kept : Prop) : Prop := RunsTo (exec i s) t → StoresNothing dest s t ∧ kept
    let spKept : Prop := r ≠ .sp → t.sp = s.sp
    frame (instrLdWord r w) pair (spKept ∧ t.f = s.f ∧ t.ime = s.ime) ∧
    frame (instrInc16 r) pair (spKept ∧ t.f = s.f ∧ t.ime = s.ime) ∧
    frame (instrDec16 r) pair (spKept ∧ t.f = s.f ∧ t.ime = s.ime) ∧
    frame (instrAddHL r) [.h, .l] (t.sp = s.sp ∧ t.f.z = s.f.z ∧ t.ime = s.ime) ∧
    frame (.add_SP_e8 e) [] (t.ime = s.ime) ∧ frame (.ld_HL_SPe8 e) [.h, .l] (t.sp = s.sp ∧ t.ime = s.ime) ∧
    frame .ld_SP_HL [] (t.f = s.f ∧ t.ime = s.ime) ∧
    frame .di [] (t.sp = s.sp ∧ t.f = s.f) ∧ frame .ei [] (t.sp = s.sp ∧ t.f = s.f) ∧
    frame (.jp_a16 w) [] (t.sp = s.sp ∧ t.f = s.f ∧ t.ime = s.ime) ∧
    frame (instrJpCc j w) [] (t.sp = s.sp ∧ t.f = s.f ∧ t.ime = s.ime) ∧
    frame .jp_HL [] (t.sp = s.sp ∧ t.f = s.f ∧ t.ime = s.ime) ∧
    frame (.jr_e8 e) [] (t.sp = s.sp ∧ t.f = s.f ∧ t.ime = s.ime) ∧
    frame (instrJrCc j e) [] (t.sp = s.sp ∧ t.f = s.f ∧ t.ime = s.ime)

/-- Frame of the forms that store: no byte outside the bytes stored to, no register but HL of the stepping stores, no
flag but those of INC, DEC and the shifts (41_loads.md R134, R136, R139, R140, R143, R144, R146, R148, R150, R152,
42_alu8.md R193, R195, 44_rotate_shift_bit.md R220, R240, R242). Marked by the spec as its own: R144, R240, R242
(general knowledge). -/
def Obligations.FrameOfStores : Prop :=
  ∀ (s t : State) (r : Reg8) (n : Byte) (w : Word) (k : Fin 8) (sh : ShiftOp),
    let high (b : Byte) : Word := BitVec.ofNat 16 (0xFF00 + b.toNat)
    let frame (i : Instr) (stored : List Word) (moved : List Reg8) (kept : Prop) : Prop :=
      RunsTo (exec i s) t → StoresOnly stored moved s t ∧ t.sp = s.sp ∧ t.ime = s.ime ∧ kept
    frame (instrLd .atHL (.reg r)) [s.hl] [] (t.f = s.f) ∧ frame (instrLdImm .atHL n) [s.hl] [] (t.f = s.f) ∧
    frame .ld_atBC_A [s.bc] [] (t.f = s.f) ∧ frame .ld_atDE_A [s.de] [] (t.f = s.f) ∧
    frame .ld_atHLi_A [s.hl] [.h, .l] (t.f = s.f) ∧ frame .ld_atHLd_A [s.hl] [.h, .l] (t.f = s.f) ∧
    frame (.ld_atA16_A w) [w] [] (t.f = s.f) ∧ frame (.ldh_atA8_A n) [high n] [] (t.f = s.f) ∧
    frame .ld_atC_A [high s.c] [] (t.f = s.f) ∧ frame (.ld_atA16_SP w) [w, w + 1] [] (t.f = s.f) ∧
    frame (instrInc8 .atHL) [s.hl] [] (t.f.c = s.f.c) ∧ frame (instrDec8 .atHL) [s.hl] [] (t.f.c = s.f.c) ∧
    frame (instrShift sh .atHL) [s.hl] [] True ∧ frame (instrRes k .atHL) [s.hl] [] (t.f = s.f) ∧
    frame (instrSet k .atHL) [s.hl] [] (t.f = s.f)

/-- Frame of the stack forms: PUSH, CALL and RST store the two bytes below SP and move SP by 2; POP and the returns
store nothing and write the popped pair or pc, and IME for RETI (41_loads.md R154 to R156, 45_control_transfer.md R251
to R256). Marked by the spec as its own: R255 (general knowledge). -/
def Obligations.FrameOfStackForms : Prop :=
  ∀ (s t : State) (r : StackReg) (a : Word) (i : Fin 4) (y : Fin 8),
    let pair : List Reg8 := match r with
      | .bc => [.b, .c]
      | .de => [.d, .e]
      | .hl => [.h, .l]
      | .af => [.a]
    let pushes (k : Instr) : Prop :=
      RunsTo (exec k s) t → StoresOnly [s.sp - 2, s.sp - 1] [] s t ∧ t.sp = s.sp - 2 ∧ t.f = s.f ∧ t.ime = s.ime
    let pops (k : Instr) (dest : List Reg8) (kept : Prop) : Prop :=
      RunsTo (exec k s) t → StoresNothing dest s t ∧ t.sp = s.sp + 2 ∧ kept
    pushes (instrPush r) ∧ pushes (.call_a16 a) ∧ (condHolds i s.f → pushes (instrCallCc (cc i) a)) ∧
    (¬ condHolds i s.f → RunsTo (exec (instrCallCc (cc i) a) s) t →
      StoresNothing [] s t ∧ t.sp = s.sp ∧ t.f = s.f ∧ t.ime = s.ime) ∧ pushes (instrRst y) ∧
    pops (instrPop r) pair ((r ≠ .af → t.f = s.f) ∧ t.ime = s.ime) ∧ pops .ret [] (t.f = s.f ∧ t.ime = s.ime) ∧
    pops .reti [] (t.f = s.f) ∧
    (condHolds i s.f → pops (instrRetCc (cc i)) [] (t.f = s.f ∧ t.ime = s.ime)) ∧
    (¬ condHolds i s.f → RunsTo (exec (instrRetCc (cc i)) s) t →
      StoresNothing [] s t ∧ t.sp = s.sp ∧ t.f = s.f ∧ t.ime = s.ime)
end

