-- ==== Sys2Proof/Laws/Memory.lean ====
section
/-! SUPPORT. The laws of a backing store: a read after a write, the frame of a write, and that every operation keeps
the canonical form and the bounds of the keys. -/

namespace Sys2Proof.Machine

/-! ## Reads -/

/-- No cell is listed at or below the key that all lie above. -/
theorem Memory.read_of_above {m : Memory} {a k : Nat} (h : Memory.above a m = true) (hk : k ≤ a) :
    Memory.read m k = Memory.unlisted := by
  induction m with
  | nil => rfl
  | cons c m ih =>
    obtain ⟨x, v⟩ := c
    simp only [Memory.above, Bool.and_eq_true, decide_eq_true_eq] at h
    simp only [Memory.read]
    rw [if_neg (by omega)]
    exact ih h.2

theorem Memory.above_mono {m : Memory} {a b : Nat} (h : Memory.above b m = true) (hab : a ≤ b) :
    Memory.above a m = true := by
  induction m with
  | nil => rfl
  | cons c m ih =>
    obtain ⟨x, v⟩ := c
    simp only [Memory.above, Bool.and_eq_true, decide_eq_true_eq] at h ⊢
    exact ⟨by omega, ih h.2⟩

/-- A read after a write to another key. -/
theorem Memory.read_write_of_ne (m : Memory) {a k : Nat} (v : Byte) (h : k ≠ a) :
    Memory.read (Memory.write m a v) k = Memory.read m k := by
  induction m with
  | nil =>
    simp only [Memory.write]
    split
    · rfl
    · simp only [Memory.read]; rw [if_neg (by omega)]
  | cons c m ih =>
    obtain ⟨x, y⟩ := c
    simp only [Memory.write]
    split
    · split
      · rfl
      · simp only [Memory.read]; rw [if_neg (by omega)]
    · split
      · subst_vars
        split
        · simp only [Memory.read]; rw [if_neg (by omega)]
        · simp only [Memory.read]; rw [if_neg (by omega), if_neg (by omega)]
      · simp only [Memory.read]; rw [ih]

/-- A read after a write to the same key, in canonical form. -/
theorem Memory.read_write_self {m : Memory} {a : Nat} {v : Byte} (h : Memory.wf m = true) :
    Memory.read (Memory.write m a v) a = v := by
  induction m with
  | nil =>
    simp only [Memory.write]
    split
    · subst_vars; rfl
    · simp [Memory.read]
  | cons c m ih =>
    obtain ⟨x, y⟩ := c
    simp only [Memory.wf, Bool.and_eq_true] at h
    simp only [Memory.write]
    split
    · split
      · subst_vars
        simp only [Memory.read]
        rw [if_neg (by omega)]
        exact Memory.read_of_above h.1.2 (by omega)
      · simp [Memory.read]
    · split
      · subst_vars
        split
        · subst_vars; exact Memory.read_of_above h.1.2 (le_refl _)
        · simp [Memory.read]
      · simp only [Memory.read]; rw [if_neg (by omega)]; exact ih h.2

/-! ## The canonical form -/

theorem Memory.above_write {m : Memory} {k a : Nat} {v : Byte} (h : Memory.above k m = true) (hk : k < a) :
    Memory.above k (Memory.write m a v) = true := by
  induction m with
  | nil =>
    simp only [Memory.write]
    split
    · rfl
    · simp [Memory.above, hk]
  | cons c m ih =>
    obtain ⟨x, y⟩ := c
    simp only [Memory.above, Bool.and_eq_true, decide_eq_true_eq] at h
    simp only [Memory.write]
    split
    · split <;> simp [Memory.above, h, hk]
    · split
      · split <;> simp [Memory.above, h, hk]
      · simp [Memory.above, h.1, ih h.2]

/-- A write keeps the canonical form. -/
theorem Memory.wf_write {m : Memory} {a : Nat} {v : Byte} (h : Memory.wf m = true) :
    Memory.wf (Memory.write m a v) = true := by
  induction m with
  | nil =>
    simp only [Memory.write]
    split
    · rfl
    · simp_all [Memory.wf, Memory.above]
  | cons c m ih =>
    obtain ⟨x, y⟩ := c
    have h' := h
    simp only [Memory.wf, Bool.and_eq_true, decide_eq_true_eq] at h'
    simp only [Memory.write]
    split
    · split
      · exact h
      · rename_i hv
        simp only [Memory.wf, Memory.above, Bool.and_eq_true, decide_eq_true_eq]
        exact ⟨⟨hv, by assumption, Memory.above_mono h'.1.2 (by omega)⟩, h'⟩
    · split
      · split
        · exact h'.2
        · rename_i hv
          simp only [Memory.wf, Bool.and_eq_true, decide_eq_true_eq]
          subst_vars
          exact ⟨⟨hv, h'.1.2⟩, h'.2⟩
      · simp only [Memory.wf, Bool.and_eq_true, decide_eq_true_eq]
        exact ⟨⟨h'.1.1, Memory.above_write h'.1.2 (by omega)⟩, ih h'.2⟩

/-- A write keeps a bound on the keys that its own key meets. -/
theorem Memory.keysOk_write {p : Nat → Bool} {m : Memory} {a : Nat} {v : Byte} (h : keysOk p m = true)
    (ha : p a = true) : keysOk p (Memory.write m a v) = true := by
  induction m with
  | nil =>
    simp only [Memory.write]
    split
    · rfl
    · simp [keysOk, ha]
  | cons c m ih =>
    obtain ⟨x, y⟩ := c
    simp only [keysOk, List.all_cons, Bool.and_eq_true] at h ih ⊢
    simp only [Memory.write]
    split
    · split <;> simp [h.1, ha] <;> simpa using List.all_eq_true.mp h.2
    · split
      · split <;> simp [ha] <;> simpa using List.all_eq_true.mp h.2
      · simp only [List.all_cons, Bool.and_eq_true]; exact ⟨h.1, ih h.2⟩

/-! ## A run of bytes -/

theorem Memory.above_runCells (base : Nat) (bytes : List Byte) {k : Nat} (h : k < base) :
    Memory.above k (Memory.runCells base bytes) = true := by
  induction bytes generalizing base with
  | nil => rfl
  | cons v vs ih =>
    simp only [Memory.runCells]
    split
    · exact ih _ (by omega)
    · simp [Memory.above, h, ih (base + 1) (by omega)]

theorem Memory.wf_runCells (base : Nat) (bytes : List Byte) : Memory.wf (Memory.runCells base bytes) = true := by
  induction bytes generalizing base with
  | nil => rfl
  | cons v vs ih =>
    simp only [Memory.runCells]
    split
    · exact ih _
    · rename_i hv
      simp only [Memory.wf, Bool.and_eq_true, decide_eq_true_eq]
      exact ⟨⟨hv, Memory.above_runCells _ _ (by omega)⟩, ih _⟩

theorem Memory.keysOk_runCells {p : Nat → Bool} (base : Nat) (bytes : List Byte)
    (h : ∀ k, base ≤ k → k < base + bytes.length → p k = true) : keysOk p (Memory.runCells base bytes) = true := by
  induction bytes generalizing base with
  | nil => rfl
  | cons v vs ih =>
    have ht := ih (base + 1) fun k h1 h2 => h k (by omega) (by simp only [List.length_cons]; omega)
    simp only [Memory.runCells]
    split
    · exact ht
    · simp only [keysOk, List.all_cons, Bool.and_eq_true] at ht ⊢
      exact ⟨h base (le_refl _) (by simp), ht⟩

/-- A read of a key no cell has. -/
theorem Memory.read_of_forall_ne {m : Memory} {k : Nat} (h : ∀ c ∈ m, c.1 ≠ k) :
    Memory.read m k = Memory.unlisted := by
  induction m with
  | nil => rfl
  | cons c m ih =>
    obtain ⟨x, v⟩ := c
    simp only [Memory.read]
    rw [if_neg (h (x, v) (by simp))]
    exact ih fun c hc => h c (by simp [hc])

/-- A read of two lists of cells, the first of which has none at the key. -/
theorem Memory.read_append_of_forall_ne {m n : Memory} {k : Nat} (h : ∀ c ∈ m, c.1 ≠ k) :
    Memory.read (m ++ n) k = Memory.read n k := by
  induction m with
  | nil => rfl
  | cons c m ih =>
    obtain ⟨x, v⟩ := c
    simp only [List.cons_append, Memory.read]
    rw [if_neg (h (x, v) (by simp))]
    exact ih fun c hc => h c (by simp [hc])

/-- A read of two lists of cells, the second of which has none at the key. -/
theorem Memory.read_append_of_right_ne {m n : Memory} {k : Nat} (h : ∀ c ∈ n, c.1 ≠ k) :
    Memory.read (m ++ n) k = Memory.read m k := by
  induction m with
  | nil => exact Memory.read_of_forall_ne h
  | cons c m ih => obtain ⟨x, v⟩ := c; simp only [List.cons_append, Memory.read, ih]

theorem Memory.runCells_keys {base : Nat} {bytes : List Byte} {c : Host.Cell} (h : c ∈ Memory.runCells base bytes) :
    base ≤ c.1 ∧ c.1 < base + bytes.length := by
  have hb := Memory.keysOk_runCells (p := fun k => decide (base ≤ k ∧ k < base + bytes.length)) base bytes
    fun k h1 h2 => by simp [h1, h2]
  simpa using List.all_eq_true.mp hb c h

theorem Memory.read_runCells (base : Nat) (bytes : List Byte) (i : Nat) (h : i < bytes.length) :
    Memory.read (Memory.runCells base bytes) (base + i) = bytes[i] := by
  induction bytes generalizing base i with
  | nil => simp at h
  | cons v vs ih =>
    cases i with
    | zero =>
      simp only [Memory.runCells]
      split
      · rename_i hv
        rw [hv]
        exact Memory.read_of_forall_ne fun c hc => by have := Memory.runCells_keys hc; omega
      · simp [Memory.read]
    | succ i =>
      have := ih (base + 1) i (by simpa using h)
      rw [show base + (i + 1) = base + 1 + i by omega]
      simp only [Memory.runCells]
      split
      · simpa using this
      · simp only [Memory.read]; rw [if_neg (by omega)]; simpa using this

/-- A read outside a run of stored bytes. -/
theorem Memory.read_writeRun_of_outside (m : Memory) (base : Nat) (bytes : List Byte) {k : Nat}
    (h : k < base ∨ base + bytes.length ≤ k) :
    Memory.read (Memory.writeRun m base bytes) k = Memory.read m k := by
  have hfilter : ∀ (p : Nat → Bool) (n : Memory), p k = true →
      Memory.read (n.filter fun c => p c.1) k = Memory.read n k := by
    intro p n hp
    induction n with
    | nil => rfl
    | cons c n ih =>
      obtain ⟨x, v⟩ := c
      by_cases hx : p x = true
      · simp only [List.filter_cons, hx, if_true, Memory.read, ih]
      · have : x ≠ k := fun e => hx (e ▸ hp)
        simp only [List.filter_cons, hx, Memory.read]
        rw [if_neg this]
        simpa using ih
  unfold Memory.writeRun
  rcases h with h | h
  · rw [Memory.read_append_of_right_ne, Memory.read_append_of_right_ne]
    · exact hfilter (fun x => decide (x < base)) m (by simpa using h)
    · intro c hc; have := Memory.runCells_keys hc; omega
    · intro c hc; simp at hc; omega
  · rw [Memory.read_append_of_forall_ne]
    · exact hfilter (fun x => decide (base + bytes.length ≤ x)) m (by simpa using h)
    · intro c hc
      rcases List.mem_append.mp hc with hc | hc
      · simp at hc; omega
      · have := Memory.runCells_keys hc; omega

/-- A read inside a run of stored bytes. -/
theorem Memory.read_writeRun_of_inside (m : Memory) (base : Nat) (bytes : List Byte) (i : Nat)
    (h : i < bytes.length) : Memory.read (Memory.writeRun m base bytes) (base + i) = bytes[i] := by
  unfold Memory.writeRun
  rw [Memory.read_append_of_right_ne, Memory.read_append_of_forall_ne]
  · exact Memory.read_runCells base bytes i h
  · intro c hc; simp at hc; omega
  · intro c hc; simp at hc; omega

/-- A bound on all keys, as a proposition on the cells. -/
theorem Memory.above_iff {m : Memory} {a : Nat} : Memory.above a m = true ↔ ∀ c ∈ m, a < c.1 := by
  induction m with
  | nil => simp [Memory.above]
  | cons c m ih => obtain ⟨x, v⟩ := c; simp [Memory.above, ih]

/-- The canonical form of two lists of cells, one below the other. -/
theorem Memory.wf_append {m n : Memory} (hm : Memory.wf m = true) (hn : Memory.wf n = true)
    (h : ∀ c ∈ m, ∀ d ∈ n, c.1 < d.1) : Memory.wf (m ++ n) = true := by
  induction m with
  | nil => simpa using hn
  | cons c m ih =>
    obtain ⟨x, v⟩ := c
    simp only [Memory.wf, Bool.and_eq_true, decide_eq_true_eq] at hm
    simp only [List.cons_append, Memory.wf, Bool.and_eq_true, decide_eq_true_eq]
    refine ⟨⟨hm.1.1, Memory.above_iff.mpr ?_⟩, ih hm.2 fun c hc d hd => h c (by simp [hc]) d hd⟩
    intro d hd
    rcases List.mem_append.mp hd with hd | hd
    · exact Memory.above_iff.mp hm.1.2 d hd
    · exact h (x, v) (by simp) d hd

theorem Memory.wf_filter {m : Memory} (p : Nat → Bool) (h : Memory.wf m = true) :
    Memory.wf (m.filter fun c => p c.1) = true := by
  induction m with
  | nil => rfl
  | cons c m ih =>
    obtain ⟨x, v⟩ := c
    simp only [Memory.wf, Bool.and_eq_true, decide_eq_true_eq] at h
    by_cases hx : p x = true
    · simp only [List.filter_cons, hx, if_true, Memory.wf, Bool.and_eq_true, decide_eq_true_eq]
      exact ⟨⟨h.1.1, Memory.above_iff.mpr fun d hd =>
        Memory.above_iff.mp h.1.2 d (List.mem_filter.mp hd).1⟩, ih h.2⟩
    · simpa [List.filter_cons, hx] using ih h.2

/-- A run of stored bytes keeps the canonical form. -/
theorem Memory.wf_writeRun {m : Memory} (base : Nat) (bytes : List Byte) (h : Memory.wf m = true) :
    Memory.wf (Memory.writeRun m base bytes) = true := by
  unfold Memory.writeRun
  refine Memory.wf_append (Memory.wf_append (Memory.wf_filter (fun k => decide (k < base)) h)
    (Memory.wf_runCells base bytes) ?_) (Memory.wf_filter (fun k => decide (base + bytes.length ≤ k)) h) ?_
  · intro c hc d hd
    have := Memory.runCells_keys hd
    simp at hc; omega
  · intro c hc d hd
    have hd' : base + bytes.length ≤ d.1 := by simpa using (List.mem_filter.mp hd).2
    rcases List.mem_append.mp hc with hc | hc
    · have : c.1 < base := by simpa using (List.mem_filter.mp hc).2
      omega
    · have := Memory.runCells_keys hc; omega

/-- A run of stored bytes keeps a bound on the keys that the run meets. -/
theorem Memory.keysOk_writeRun {p : Nat → Bool} {m : Memory} (base : Nat) (bytes : List Byte)
    (h : keysOk p m = true) (hr : ∀ k, base ≤ k → k < base + bytes.length → p k = true) :
    keysOk p (Memory.writeRun m base bytes) = true := by
  have hm := List.all_eq_true.mp h
  refine List.all_eq_true.mpr fun c hc => ?_
  simp only [Memory.writeRun, List.mem_append, List.mem_filter] at hc
  rcases hc with (hc | hc) | hc
  · exact hm c hc.1
  · have := Memory.runCells_keys hc; exact hr c.1 this.1 this.2
  · exact hm c hc.1

/-! ## Cells in any order -/

theorem Memory.wf_ofCells (cells : List Host.Cell) : Memory.wf (Memory.ofCells cells) = true := by
  suffices ∀ m : Memory, Memory.wf m = true →
      Memory.wf (cells.foldl (fun m c => Memory.write m c.1 c.2) m) = true from this [] rfl
  induction cells with
  | nil => exact fun m h => h
  | cons c cs ih => exact fun m h => ih _ (Memory.wf_write h)

theorem Memory.keysOk_ofCells {p : Nat → Bool} (cells : List Host.Cell) (h : ∀ c ∈ cells, p c.1 = true) :
    keysOk p (Memory.ofCells cells) = true := by
  suffices ∀ m : Memory, keysOk p m = true →
      keysOk p (cells.foldl (fun m c => Memory.write m c.1 c.2) m) = true from this [] rfl
  induction cells with
  | nil => exact fun m hm => hm
  | cons c cs ih =>
    exact fun m hm => ih (fun d hd => h d (by simp [hd])) _ (Memory.keysOk_write hm (h c (by simp)))

/-- Of the cells a store is made from, the last at a key is the one read there. -/
theorem Memory.read_ofCells (cells : List Host.Cell) (k : Nat) :
    Memory.read (Memory.ofCells cells) k =
      match cells.reverse.find? (fun c => c.1 == k) with
      | some c => c.2
      | none => Memory.unlisted := by
  induction cells using List.reverseRecOn with
  | nil => rfl
  | append_singleton xs c ih =>
    have hw := Memory.wf_ofCells xs
    have hc : Memory.ofCells (xs ++ [c]) = Memory.write (Memory.ofCells xs) c.1 c.2 := by simp [Memory.ofCells]
    rw [hc, List.reverse_append, List.reverse_singleton, List.singleton_append, List.find?_cons]
    by_cases h : c.1 = k
    · simp only [h, beq_self_eq_true]
      exact Memory.read_write_self hw
    · rw [Memory.read_write_of_ne _ _ (Ne.symm h), ih, beq_false_of_ne h]

/-- Cells kept by a test that the key passes are read there as if all had been kept. -/
theorem Memory.read_ofCells_filter (cells : List Host.Cell) {p : Nat → Bool} {k : Nat} (h : p k = true) :
    Memory.read (Memory.ofCells (cells.filter fun c => p c.1)) k = Memory.read (Memory.ofCells cells) k := by
  rw [Memory.read_ofCells, Memory.read_ofCells, ← List.filter_reverse, List.find?_filter]
  congr 2
  funext c
  by_cases hc : c.1 = k <;> simp [hc, h]

end Sys2Proof.Machine
end

