-- ==== Sys2Proof/Laws/State.lean ====
section
/-! SUPPORT. One lemma per field per update of State, so that no proof unfolds a record update. -/

namespace Sys2Proof.Machine

/-! ## `State.setF` -/

@[simp] theorem State.setF_a (s : State) (x : Flags) : (s.setF x).a = s.a := rfl
@[simp] theorem State.setF_b (s : State) (x : Flags) : (s.setF x).b = s.b := rfl
@[simp] theorem State.setF_c (s : State) (x : Flags) : (s.setF x).c = s.c := rfl
@[simp] theorem State.setF_d (s : State) (x : Flags) : (s.setF x).d = s.d := rfl
@[simp] theorem State.setF_e (s : State) (x : Flags) : (s.setF x).e = s.e := rfl
@[simp] theorem State.setF_h (s : State) (x : Flags) : (s.setF x).h = s.h := rfl
@[simp] theorem State.setF_l (s : State) (x : Flags) : (s.setF x).l = s.l := rfl
@[simp] theorem State.setF_f (s : State) (x : Flags) : (s.setF x).f = x := rfl
@[simp] theorem State.setF_sp (s : State) (x : Flags) : (s.setF x).sp = s.sp := rfl
@[simp] theorem State.setF_pc (s : State) (x : Flags) : (s.setF x).pc = s.pc := rfl
@[simp] theorem State.setF_ime (s : State) (x : Flags) : (s.setF x).ime = s.ime := rfl
@[simp] theorem State.setF_bootLocked (s : State) (x : Flags) : (s.setF x).bootLocked = s.bootLocked := rfl
@[simp] theorem State.setF_boot (s : State) (x : Flags) : (s.setF x).boot = s.boot := rfl
@[simp] theorem State.setF_rom (s : State) (x : Flags) : (s.setF x).rom = s.rom := rfl
@[simp] theorem State.setF_romLen (s : State) (x : Flags) : (s.setF x).romLen = s.romLen := rfl
@[simp] theorem State.setF_ram (s : State) (x : Flags) : (s.setF x).ram = s.ram := rfl
@[simp] theorem State.setF_ifr (s : State) (x : Flags) : (s.setF x).ifr = s.ifr := rfl
@[simp] theorem State.setF_ier (s : State) (x : Flags) : (s.setF x).ier = s.ier := rfl
@[simp] theorem State.setF_clock (s : State) (x : Flags) : (s.setF x).clock = s.clock := rfl
@[simp] theorem State.setF_mode (s : State) (x : Flags) : (s.setF x).mode = s.mode := rfl
@[simp] theorem State.setF_line (s : State) (x : Flags) : (s.setF x).line = s.line := rfl
@[simp] theorem State.setF_scy (s : State) (x : Flags) : (s.setF x).scy = s.scy := rfl
@[simp] theorem State.setF_scx (s : State) (x : Flags) : (s.setF x).scx = s.scx := rfl
@[simp] theorem State.setF_fb (s : State) (x : Flags) : (s.setF x).fb = s.fb := rfl
@[simp] theorem State.setF_consumed (s : State) (x : Flags) : (s.setF x).consumed = s.consumed := rfl
@[simp] theorem State.setF_slot (s : State) (x : Flags) : (s.setF x).slot = s.slot := rfl
@[simp] theorem State.setF_phase (s : State) (x : Flags) : (s.setF x).phase = s.phase := rfl
@[simp] theorem State.setF_held (s : State) (x : Flags) : (s.setF x).held = s.held := rfl
@[simp] theorem State.setF_status (s : State) (x : Flags) : (s.setF x).status = s.status := rfl
@[simp] theorem State.setF_params (s : State) (x : Flags) : (s.setF x).params = s.params := rfl
@[simp] theorem State.setF_drawCount (s : State) (x : Flags) : (s.setF x).drawCount = s.drawCount := rfl
@[simp] theorem State.setF_turns (s : State) (x : Flags) : (s.setF x).turns = s.turns := rfl
@[simp] theorem State.setF_turnCount (s : State) (x : Flags) : (s.setF x).turnCount = s.turnCount := rfl

/-! ## `State.setSp` -/

@[simp] theorem State.setSp_a (s : State) (x : Word) : (s.setSp x).a = s.a := rfl
@[simp] theorem State.setSp_b (s : State) (x : Word) : (s.setSp x).b = s.b := rfl
@[simp] theorem State.setSp_c (s : State) (x : Word) : (s.setSp x).c = s.c := rfl
@[simp] theorem State.setSp_d (s : State) (x : Word) : (s.setSp x).d = s.d := rfl
@[simp] theorem State.setSp_e (s : State) (x : Word) : (s.setSp x).e = s.e := rfl
@[simp] theorem State.setSp_h (s : State) (x : Word) : (s.setSp x).h = s.h := rfl
@[simp] theorem State.setSp_l (s : State) (x : Word) : (s.setSp x).l = s.l := rfl
@[simp] theorem State.setSp_f (s : State) (x : Word) : (s.setSp x).f = s.f := rfl
@[simp] theorem State.setSp_sp (s : State) (x : Word) : (s.setSp x).sp = x := rfl
@[simp] theorem State.setSp_pc (s : State) (x : Word) : (s.setSp x).pc = s.pc := rfl
@[simp] theorem State.setSp_ime (s : State) (x : Word) : (s.setSp x).ime = s.ime := rfl
@[simp] theorem State.setSp_bootLocked (s : State) (x : Word) : (s.setSp x).bootLocked = s.bootLocked := rfl
@[simp] theorem State.setSp_boot (s : State) (x : Word) : (s.setSp x).boot = s.boot := rfl
@[simp] theorem State.setSp_rom (s : State) (x : Word) : (s.setSp x).rom = s.rom := rfl
@[simp] theorem State.setSp_romLen (s : State) (x : Word) : (s.setSp x).romLen = s.romLen := rfl
@[simp] theorem State.setSp_ram (s : State) (x : Word) : (s.setSp x).ram = s.ram := rfl
@[simp] theorem State.setSp_ifr (s : State) (x : Word) : (s.setSp x).ifr = s.ifr := rfl
@[simp] theorem State.setSp_ier (s : State) (x : Word) : (s.setSp x).ier = s.ier := rfl
@[simp] theorem State.setSp_clock (s : State) (x : Word) : (s.setSp x).clock = s.clock := rfl
@[simp] theorem State.setSp_mode (s : State) (x : Word) : (s.setSp x).mode = s.mode := rfl
@[simp] theorem State.setSp_line (s : State) (x : Word) : (s.setSp x).line = s.line := rfl
@[simp] theorem State.setSp_scy (s : State) (x : Word) : (s.setSp x).scy = s.scy := rfl
@[simp] theorem State.setSp_scx (s : State) (x : Word) : (s.setSp x).scx = s.scx := rfl
@[simp] theorem State.setSp_fb (s : State) (x : Word) : (s.setSp x).fb = s.fb := rfl
@[simp] theorem State.setSp_consumed (s : State) (x : Word) : (s.setSp x).consumed = s.consumed := rfl
@[simp] theorem State.setSp_slot (s : State) (x : Word) : (s.setSp x).slot = s.slot := rfl
@[simp] theorem State.setSp_phase (s : State) (x : Word) : (s.setSp x).phase = s.phase := rfl
@[simp] theorem State.setSp_held (s : State) (x : Word) : (s.setSp x).held = s.held := rfl
@[simp] theorem State.setSp_status (s : State) (x : Word) : (s.setSp x).status = s.status := rfl
@[simp] theorem State.setSp_params (s : State) (x : Word) : (s.setSp x).params = s.params := rfl
@[simp] theorem State.setSp_drawCount (s : State) (x : Word) : (s.setSp x).drawCount = s.drawCount := rfl
@[simp] theorem State.setSp_turns (s : State) (x : Word) : (s.setSp x).turns = s.turns := rfl
@[simp] theorem State.setSp_turnCount (s : State) (x : Word) : (s.setSp x).turnCount = s.turnCount := rfl

/-! ## `State.setPc` -/

@[simp] theorem State.setPc_a (s : State) (x : Word) : (s.setPc x).a = s.a := rfl
@[simp] theorem State.setPc_b (s : State) (x : Word) : (s.setPc x).b = s.b := rfl
@[simp] theorem State.setPc_c (s : State) (x : Word) : (s.setPc x).c = s.c := rfl
@[simp] theorem State.setPc_d (s : State) (x : Word) : (s.setPc x).d = s.d := rfl
@[simp] theorem State.setPc_e (s : State) (x : Word) : (s.setPc x).e = s.e := rfl
@[simp] theorem State.setPc_h (s : State) (x : Word) : (s.setPc x).h = s.h := rfl
@[simp] theorem State.setPc_l (s : State) (x : Word) : (s.setPc x).l = s.l := rfl
@[simp] theorem State.setPc_f (s : State) (x : Word) : (s.setPc x).f = s.f := rfl
@[simp] theorem State.setPc_sp (s : State) (x : Word) : (s.setPc x).sp = s.sp := rfl
@[simp] theorem State.setPc_pc (s : State) (x : Word) : (s.setPc x).pc = x := rfl
@[simp] theorem State.setPc_ime (s : State) (x : Word) : (s.setPc x).ime = s.ime := rfl
@[simp] theorem State.setPc_bootLocked (s : State) (x : Word) : (s.setPc x).bootLocked = s.bootLocked := rfl
@[simp] theorem State.setPc_boot (s : State) (x : Word) : (s.setPc x).boot = s.boot := rfl
@[simp] theorem State.setPc_rom (s : State) (x : Word) : (s.setPc x).rom = s.rom := rfl
@[simp] theorem State.setPc_romLen (s : State) (x : Word) : (s.setPc x).romLen = s.romLen := rfl
@[simp] theorem State.setPc_ram (s : State) (x : Word) : (s.setPc x).ram = s.ram := rfl
@[simp] theorem State.setPc_ifr (s : State) (x : Word) : (s.setPc x).ifr = s.ifr := rfl
@[simp] theorem State.setPc_ier (s : State) (x : Word) : (s.setPc x).ier = s.ier := rfl
@[simp] theorem State.setPc_clock (s : State) (x : Word) : (s.setPc x).clock = s.clock := rfl
@[simp] theorem State.setPc_mode (s : State) (x : Word) : (s.setPc x).mode = s.mode := rfl
@[simp] theorem State.setPc_line (s : State) (x : Word) : (s.setPc x).line = s.line := rfl
@[simp] theorem State.setPc_scy (s : State) (x : Word) : (s.setPc x).scy = s.scy := rfl
@[simp] theorem State.setPc_scx (s : State) (x : Word) : (s.setPc x).scx = s.scx := rfl
@[simp] theorem State.setPc_fb (s : State) (x : Word) : (s.setPc x).fb = s.fb := rfl
@[simp] theorem State.setPc_consumed (s : State) (x : Word) : (s.setPc x).consumed = s.consumed := rfl
@[simp] theorem State.setPc_slot (s : State) (x : Word) : (s.setPc x).slot = s.slot := rfl
@[simp] theorem State.setPc_phase (s : State) (x : Word) : (s.setPc x).phase = s.phase := rfl
@[simp] theorem State.setPc_held (s : State) (x : Word) : (s.setPc x).held = s.held := rfl
@[simp] theorem State.setPc_status (s : State) (x : Word) : (s.setPc x).status = s.status := rfl
@[simp] theorem State.setPc_params (s : State) (x : Word) : (s.setPc x).params = s.params := rfl
@[simp] theorem State.setPc_drawCount (s : State) (x : Word) : (s.setPc x).drawCount = s.drawCount := rfl
@[simp] theorem State.setPc_turns (s : State) (x : Word) : (s.setPc x).turns = s.turns := rfl
@[simp] theorem State.setPc_turnCount (s : State) (x : Word) : (s.setPc x).turnCount = s.turnCount := rfl

/-! ## `State.setIme` -/

@[simp] theorem State.setIme_a (s : State) (x : Bool) : (s.setIme x).a = s.a := rfl
@[simp] theorem State.setIme_b (s : State) (x : Bool) : (s.setIme x).b = s.b := rfl
@[simp] theorem State.setIme_c (s : State) (x : Bool) : (s.setIme x).c = s.c := rfl
@[simp] theorem State.setIme_d (s : State) (x : Bool) : (s.setIme x).d = s.d := rfl
@[simp] theorem State.setIme_e (s : State) (x : Bool) : (s.setIme x).e = s.e := rfl
@[simp] theorem State.setIme_h (s : State) (x : Bool) : (s.setIme x).h = s.h := rfl
@[simp] theorem State.setIme_l (s : State) (x : Bool) : (s.setIme x).l = s.l := rfl
@[simp] theorem State.setIme_f (s : State) (x : Bool) : (s.setIme x).f = s.f := rfl
@[simp] theorem State.setIme_sp (s : State) (x : Bool) : (s.setIme x).sp = s.sp := rfl
@[simp] theorem State.setIme_pc (s : State) (x : Bool) : (s.setIme x).pc = s.pc := rfl
@[simp] theorem State.setIme_ime (s : State) (x : Bool) : (s.setIme x).ime = x := rfl
@[simp] theorem State.setIme_bootLocked (s : State) (x : Bool) : (s.setIme x).bootLocked = s.bootLocked := rfl
@[simp] theorem State.setIme_boot (s : State) (x : Bool) : (s.setIme x).boot = s.boot := rfl
@[simp] theorem State.setIme_rom (s : State) (x : Bool) : (s.setIme x).rom = s.rom := rfl
@[simp] theorem State.setIme_romLen (s : State) (x : Bool) : (s.setIme x).romLen = s.romLen := rfl
@[simp] theorem State.setIme_ram (s : State) (x : Bool) : (s.setIme x).ram = s.ram := rfl
@[simp] theorem State.setIme_ifr (s : State) (x : Bool) : (s.setIme x).ifr = s.ifr := rfl
@[simp] theorem State.setIme_ier (s : State) (x : Bool) : (s.setIme x).ier = s.ier := rfl
@[simp] theorem State.setIme_clock (s : State) (x : Bool) : (s.setIme x).clock = s.clock := rfl
@[simp] theorem State.setIme_mode (s : State) (x : Bool) : (s.setIme x).mode = s.mode := rfl
@[simp] theorem State.setIme_line (s : State) (x : Bool) : (s.setIme x).line = s.line := rfl
@[simp] theorem State.setIme_scy (s : State) (x : Bool) : (s.setIme x).scy = s.scy := rfl
@[simp] theorem State.setIme_scx (s : State) (x : Bool) : (s.setIme x).scx = s.scx := rfl
@[simp] theorem State.setIme_fb (s : State) (x : Bool) : (s.setIme x).fb = s.fb := rfl
@[simp] theorem State.setIme_consumed (s : State) (x : Bool) : (s.setIme x).consumed = s.consumed := rfl
@[simp] theorem State.setIme_slot (s : State) (x : Bool) : (s.setIme x).slot = s.slot := rfl
@[simp] theorem State.setIme_phase (s : State) (x : Bool) : (s.setIme x).phase = s.phase := rfl
@[simp] theorem State.setIme_held (s : State) (x : Bool) : (s.setIme x).held = s.held := rfl
@[simp] theorem State.setIme_status (s : State) (x : Bool) : (s.setIme x).status = s.status := rfl
@[simp] theorem State.setIme_params (s : State) (x : Bool) : (s.setIme x).params = s.params := rfl
@[simp] theorem State.setIme_drawCount (s : State) (x : Bool) : (s.setIme x).drawCount = s.drawCount := rfl
@[simp] theorem State.setIme_turns (s : State) (x : Bool) : (s.setIme x).turns = s.turns := rfl
@[simp] theorem State.setIme_turnCount (s : State) (x : Bool) : (s.setIme x).turnCount = s.turnCount := rfl

/-! ## `State.setHl` -/

@[simp] theorem State.setHl_a (s : State) (x : Word) : (s.setHl x).a = s.a := rfl
@[simp] theorem State.setHl_b (s : State) (x : Word) : (s.setHl x).b = s.b := rfl
@[simp] theorem State.setHl_c (s : State) (x : Word) : (s.setHl x).c = s.c := rfl
@[simp] theorem State.setHl_d (s : State) (x : Word) : (s.setHl x).d = s.d := rfl
@[simp] theorem State.setHl_e (s : State) (x : Word) : (s.setHl x).e = s.e := rfl
@[simp] theorem State.setHl_h (s : State) (x : Word) : (s.setHl x).h = hiByte x := rfl
@[simp] theorem State.setHl_l (s : State) (x : Word) : (s.setHl x).l = loByte x := rfl
@[simp] theorem State.setHl_f (s : State) (x : Word) : (s.setHl x).f = s.f := rfl
@[simp] theorem State.setHl_sp (s : State) (x : Word) : (s.setHl x).sp = s.sp := rfl
@[simp] theorem State.setHl_pc (s : State) (x : Word) : (s.setHl x).pc = s.pc := rfl
@[simp] theorem State.setHl_ime (s : State) (x : Word) : (s.setHl x).ime = s.ime := rfl
@[simp] theorem State.setHl_bootLocked (s : State) (x : Word) : (s.setHl x).bootLocked = s.bootLocked := rfl
@[simp] theorem State.setHl_boot (s : State) (x : Word) : (s.setHl x).boot = s.boot := rfl
@[simp] theorem State.setHl_rom (s : State) (x : Word) : (s.setHl x).rom = s.rom := rfl
@[simp] theorem State.setHl_romLen (s : State) (x : Word) : (s.setHl x).romLen = s.romLen := rfl
@[simp] theorem State.setHl_ram (s : State) (x : Word) : (s.setHl x).ram = s.ram := rfl
@[simp] theorem State.setHl_ifr (s : State) (x : Word) : (s.setHl x).ifr = s.ifr := rfl
@[simp] theorem State.setHl_ier (s : State) (x : Word) : (s.setHl x).ier = s.ier := rfl
@[simp] theorem State.setHl_clock (s : State) (x : Word) : (s.setHl x).clock = s.clock := rfl
@[simp] theorem State.setHl_mode (s : State) (x : Word) : (s.setHl x).mode = s.mode := rfl
@[simp] theorem State.setHl_line (s : State) (x : Word) : (s.setHl x).line = s.line := rfl
@[simp] theorem State.setHl_scy (s : State) (x : Word) : (s.setHl x).scy = s.scy := rfl
@[simp] theorem State.setHl_scx (s : State) (x : Word) : (s.setHl x).scx = s.scx := rfl
@[simp] theorem State.setHl_fb (s : State) (x : Word) : (s.setHl x).fb = s.fb := rfl
@[simp] theorem State.setHl_consumed (s : State) (x : Word) : (s.setHl x).consumed = s.consumed := rfl
@[simp] theorem State.setHl_slot (s : State) (x : Word) : (s.setHl x).slot = s.slot := rfl
@[simp] theorem State.setHl_phase (s : State) (x : Word) : (s.setHl x).phase = s.phase := rfl
@[simp] theorem State.setHl_held (s : State) (x : Word) : (s.setHl x).held = s.held := rfl
@[simp] theorem State.setHl_status (s : State) (x : Word) : (s.setHl x).status = s.status := rfl
@[simp] theorem State.setHl_params (s : State) (x : Word) : (s.setHl x).params = s.params := rfl
@[simp] theorem State.setHl_drawCount (s : State) (x : Word) : (s.setHl x).drawCount = s.drawCount := rfl
@[simp] theorem State.setHl_turns (s : State) (x : Word) : (s.setHl x).turns = s.turns := rfl
@[simp] theorem State.setHl_turnCount (s : State) (x : Word) : (s.setHl x).turnCount = s.turnCount := rfl

/-! ## `State.setR8` -/

@[simp] theorem State.setR8_f (s : State) (r : Reg8) (x : Byte) : (s.setR8 r x).f = s.f := by
  cases r <;> rfl
@[simp] theorem State.setR8_sp (s : State) (r : Reg8) (x : Byte) : (s.setR8 r x).sp = s.sp := by
  cases r <;> rfl
@[simp] theorem State.setR8_pc (s : State) (r : Reg8) (x : Byte) : (s.setR8 r x).pc = s.pc := by
  cases r <;> rfl
@[simp] theorem State.setR8_ime (s : State) (r : Reg8) (x : Byte) : (s.setR8 r x).ime = s.ime := by
  cases r <;> rfl
@[simp] theorem State.setR8_bootLocked (s : State) (r : Reg8) (x : Byte) : (s.setR8 r x).bootLocked = s.bootLocked := by
  cases r <;> rfl
@[simp] theorem State.setR8_boot (s : State) (r : Reg8) (x : Byte) : (s.setR8 r x).boot = s.boot := by
  cases r <;> rfl
@[simp] theorem State.setR8_rom (s : State) (r : Reg8) (x : Byte) : (s.setR8 r x).rom = s.rom := by
  cases r <;> rfl
@[simp] theorem State.setR8_romLen (s : State) (r : Reg8) (x : Byte) : (s.setR8 r x).romLen = s.romLen := by
  cases r <;> rfl
@[simp] theorem State.setR8_ram (s : State) (r : Reg8) (x : Byte) : (s.setR8 r x).ram = s.ram := by
  cases r <;> rfl
@[simp] theorem State.setR8_ifr (s : State) (r : Reg8) (x : Byte) : (s.setR8 r x).ifr = s.ifr := by
  cases r <;> rfl
@[simp] theorem State.setR8_ier (s : State) (r : Reg8) (x : Byte) : (s.setR8 r x).ier = s.ier := by
  cases r <;> rfl
@[simp] theorem State.setR8_clock (s : State) (r : Reg8) (x : Byte) : (s.setR8 r x).clock = s.clock := by
  cases r <;> rfl
@[simp] theorem State.setR8_mode (s : State) (r : Reg8) (x : Byte) : (s.setR8 r x).mode = s.mode := by
  cases r <;> rfl
@[simp] theorem State.setR8_line (s : State) (r : Reg8) (x : Byte) : (s.setR8 r x).line = s.line := by
  cases r <;> rfl
@[simp] theorem State.setR8_scy (s : State) (r : Reg8) (x : Byte) : (s.setR8 r x).scy = s.scy := by
  cases r <;> rfl
@[simp] theorem State.setR8_scx (s : State) (r : Reg8) (x : Byte) : (s.setR8 r x).scx = s.scx := by
  cases r <;> rfl
@[simp] theorem State.setR8_fb (s : State) (r : Reg8) (x : Byte) : (s.setR8 r x).fb = s.fb := by
  cases r <;> rfl
@[simp] theorem State.setR8_consumed (s : State) (r : Reg8) (x : Byte) : (s.setR8 r x).consumed = s.consumed := by
  cases r <;> rfl
@[simp] theorem State.setR8_slot (s : State) (r : Reg8) (x : Byte) : (s.setR8 r x).slot = s.slot := by
  cases r <;> rfl
@[simp] theorem State.setR8_phase (s : State) (r : Reg8) (x : Byte) : (s.setR8 r x).phase = s.phase := by
  cases r <;> rfl
@[simp] theorem State.setR8_held (s : State) (r : Reg8) (x : Byte) : (s.setR8 r x).held = s.held := by
  cases r <;> rfl
@[simp] theorem State.setR8_status (s : State) (r : Reg8) (x : Byte) : (s.setR8 r x).status = s.status := by
  cases r <;> rfl
@[simp] theorem State.setR8_params (s : State) (r : Reg8) (x : Byte) : (s.setR8 r x).params = s.params := by
  cases r <;> rfl
@[simp] theorem State.setR8_drawCount (s : State) (r : Reg8) (x : Byte) : (s.setR8 r x).drawCount = s.drawCount := by
  cases r <;> rfl
@[simp] theorem State.setR8_turns (s : State) (r : Reg8) (x : Byte) : (s.setR8 r x).turns = s.turns := by
  cases r <;> rfl
@[simp] theorem State.setR8_turnCount (s : State) (r : Reg8) (x : Byte) : (s.setR8 r x).turnCount = s.turnCount := by
  cases r <;> rfl

/-! ## `State.setR16` -/

@[simp] theorem State.setR16_a (s : State) (r : Reg16) (x : Word) : (s.setR16 r x).a = s.a := by
  cases r <;> rfl
@[simp] theorem State.setR16_f (s : State) (r : Reg16) (x : Word) : (s.setR16 r x).f = s.f := by
  cases r <;> rfl
@[simp] theorem State.setR16_pc (s : State) (r : Reg16) (x : Word) : (s.setR16 r x).pc = s.pc := by
  cases r <;> rfl
@[simp] theorem State.setR16_ime (s : State) (r : Reg16) (x : Word) : (s.setR16 r x).ime = s.ime := by
  cases r <;> rfl
@[simp] theorem State.setR16_bootLocked (s : State) (r : Reg16) (x : Word) : (s.setR16 r x).bootLocked = s.bootLocked := by
  cases r <;> rfl
@[simp] theorem State.setR16_boot (s : State) (r : Reg16) (x : Word) : (s.setR16 r x).boot = s.boot := by
  cases r <;> rfl
@[simp] theorem State.setR16_rom (s : State) (r : Reg16) (x : Word) : (s.setR16 r x).rom = s.rom := by
  cases r <;> rfl
@[simp] theorem State.setR16_romLen (s : State) (r : Reg16) (x : Word) : (s.setR16 r x).romLen = s.romLen := by
  cases r <;> rfl
@[simp] theorem State.setR16_ram (s : State) (r : Reg16) (x : Word) : (s.setR16 r x).ram = s.ram := by
  cases r <;> rfl
@[simp] theorem State.setR16_ifr (s : State) (r : Reg16) (x : Word) : (s.setR16 r x).ifr = s.ifr := by
  cases r <;> rfl
@[simp] theorem State.setR16_ier (s : State) (r : Reg16) (x : Word) : (s.setR16 r x).ier = s.ier := by
  cases r <;> rfl
@[simp] theorem State.setR16_clock (s : State) (r : Reg16) (x : Word) : (s.setR16 r x).clock = s.clock := by
  cases r <;> rfl
@[simp] theorem State.setR16_mode (s : State) (r : Reg16) (x : Word) : (s.setR16 r x).mode = s.mode := by
  cases r <;> rfl
@[simp] theorem State.setR16_line (s : State) (r : Reg16) (x : Word) : (s.setR16 r x).line = s.line := by
  cases r <;> rfl
@[simp] theorem State.setR16_scy (s : State) (r : Reg16) (x : Word) : (s.setR16 r x).scy = s.scy := by
  cases r <;> rfl
@[simp] theorem State.setR16_scx (s : State) (r : Reg16) (x : Word) : (s.setR16 r x).scx = s.scx := by
  cases r <;> rfl
@[simp] theorem State.setR16_fb (s : State) (r : Reg16) (x : Word) : (s.setR16 r x).fb = s.fb := by
  cases r <;> rfl
@[simp] theorem State.setR16_consumed (s : State) (r : Reg16) (x : Word) : (s.setR16 r x).consumed = s.consumed := by
  cases r <;> rfl
@[simp] theorem State.setR16_slot (s : State) (r : Reg16) (x : Word) : (s.setR16 r x).slot = s.slot := by
  cases r <;> rfl
@[simp] theorem State.setR16_phase (s : State) (r : Reg16) (x : Word) : (s.setR16 r x).phase = s.phase := by
  cases r <;> rfl
@[simp] theorem State.setR16_held (s : State) (r : Reg16) (x : Word) : (s.setR16 r x).held = s.held := by
  cases r <;> rfl
@[simp] theorem State.setR16_status (s : State) (r : Reg16) (x : Word) : (s.setR16 r x).status = s.status := by
  cases r <;> rfl
@[simp] theorem State.setR16_params (s : State) (r : Reg16) (x : Word) : (s.setR16 r x).params = s.params := by
  cases r <;> rfl
@[simp] theorem State.setR16_drawCount (s : State) (r : Reg16) (x : Word) : (s.setR16 r x).drawCount = s.drawCount := by
  cases r <;> rfl
@[simp] theorem State.setR16_turns (s : State) (r : Reg16) (x : Word) : (s.setR16 r x).turns = s.turns := by
  cases r <;> rfl
@[simp] theorem State.setR16_turnCount (s : State) (r : Reg16) (x : Word) : (s.setR16 r x).turnCount = s.turnCount := by
  cases r <;> rfl

/-! ## `State.setStack` -/

@[simp] theorem State.setStack_sp (s : State) (r : StackReg) (x : Word) : (s.setStack r x).sp = s.sp := by
  cases r <;> rfl
@[simp] theorem State.setStack_pc (s : State) (r : StackReg) (x : Word) : (s.setStack r x).pc = s.pc := by
  cases r <;> rfl
@[simp] theorem State.setStack_ime (s : State) (r : StackReg) (x : Word) : (s.setStack r x).ime = s.ime := by
  cases r <;> rfl
@[simp] theorem State.setStack_bootLocked (s : State) (r : StackReg) (x : Word) : (s.setStack r x).bootLocked = s.bootLocked := by
  cases r <;> rfl
@[simp] theorem State.setStack_boot (s : State) (r : StackReg) (x : Word) : (s.setStack r x).boot = s.boot := by
  cases r <;> rfl
@[simp] theorem State.setStack_rom (s : State) (r : StackReg) (x : Word) : (s.setStack r x).rom = s.rom := by
  cases r <;> rfl
@[simp] theorem State.setStack_romLen (s : State) (r : StackReg) (x : Word) : (s.setStack r x).romLen = s.romLen := by
  cases r <;> rfl
@[simp] theorem State.setStack_ram (s : State) (r : StackReg) (x : Word) : (s.setStack r x).ram = s.ram := by
  cases r <;> rfl
@[simp] theorem State.setStack_ifr (s : State) (r : StackReg) (x : Word) : (s.setStack r x).ifr = s.ifr := by
  cases r <;> rfl
@[simp] theorem State.setStack_ier (s : State) (r : StackReg) (x : Word) : (s.setStack r x).ier = s.ier := by
  cases r <;> rfl
@[simp] theorem State.setStack_clock (s : State) (r : StackReg) (x : Word) : (s.setStack r x).clock = s.clock := by
  cases r <;> rfl
@[simp] theorem State.setStack_mode (s : State) (r : StackReg) (x : Word) : (s.setStack r x).mode = s.mode := by
  cases r <;> rfl
@[simp] theorem State.setStack_line (s : State) (r : StackReg) (x : Word) : (s.setStack r x).line = s.line := by
  cases r <;> rfl
@[simp] theorem State.setStack_scy (s : State) (r : StackReg) (x : Word) : (s.setStack r x).scy = s.scy := by
  cases r <;> rfl
@[simp] theorem State.setStack_scx (s : State) (r : StackReg) (x : Word) : (s.setStack r x).scx = s.scx := by
  cases r <;> rfl
@[simp] theorem State.setStack_fb (s : State) (r : StackReg) (x : Word) : (s.setStack r x).fb = s.fb := by
  cases r <;> rfl
@[simp] theorem State.setStack_consumed (s : State) (r : StackReg) (x : Word) : (s.setStack r x).consumed = s.consumed := by
  cases r <;> rfl
@[simp] theorem State.setStack_slot (s : State) (r : StackReg) (x : Word) : (s.setStack r x).slot = s.slot := by
  cases r <;> rfl
@[simp] theorem State.setStack_phase (s : State) (r : StackReg) (x : Word) : (s.setStack r x).phase = s.phase := by
  cases r <;> rfl
@[simp] theorem State.setStack_held (s : State) (r : StackReg) (x : Word) : (s.setStack r x).held = s.held := by
  cases r <;> rfl
@[simp] theorem State.setStack_status (s : State) (r : StackReg) (x : Word) : (s.setStack r x).status = s.status := by
  cases r <;> rfl
@[simp] theorem State.setStack_params (s : State) (r : StackReg) (x : Word) : (s.setStack r x).params = s.params := by
  cases r <;> rfl
@[simp] theorem State.setStack_drawCount (s : State) (r : StackReg) (x : Word) : (s.setStack r x).drawCount = s.drawCount := by
  cases r <;> rfl
@[simp] theorem State.setStack_turns (s : State) (r : StackReg) (x : Word) : (s.setStack r x).turns = s.turns := by
  cases r <;> rfl
@[simp] theorem State.setStack_turnCount (s : State) (r : StackReg) (x : Word) :
    (s.setStack r x).turnCount = s.turnCount := by
  cases r <;> rfl

/-! ## Reading back what an update wrote -/

@[simp] theorem State.getR8_setR8_self (s : State) (r : Reg8) (x : Byte) : (s.setR8 r x).getR8 r = x := by
  cases r <;> rfl

theorem State.getR8_setR8_of_ne (s : State) (r q : Reg8) (x : Byte) (h : q ≠ r) :
    (s.setR8 r x).getR8 q = s.getR8 q := by
  cases r <;> cases q <;> first | rfl | exact absurd rfl h

@[simp] theorem State.getR8_setF (s : State) (r : Reg8) (x : Flags) : (s.setF x).getR8 r = s.getR8 r := by
  cases r <;> rfl

@[simp] theorem State.getR8_setSp (s : State) (r : Reg8) (x : Word) : (s.setSp x).getR8 r = s.getR8 r := by
  cases r <;> rfl

@[simp] theorem State.getR8_setPc (s : State) (r : Reg8) (x : Word) : (s.setPc x).getR8 r = s.getR8 r := by
  cases r <;> rfl

@[simp] theorem State.getR8_setIme (s : State) (r : Reg8) (x : Bool) : (s.setIme x).getR8 r = s.getR8 r := by
  cases r <;> rfl

@[simp] theorem State.hl_setF (s : State) (x : Flags) : (s.setF x).hl = s.hl := rfl

@[simp] theorem State.hl_setPc (s : State) (x : Word) : (s.setPc x).hl = s.hl := rfl

@[simp] theorem State.hl_setSp (s : State) (x : Word) : (s.setSp x).hl = s.hl := rfl

end Sys2Proof.Machine
end

