-- ==== Sys2Proof/Laws/Ops.lean ====
section
/-! SUPPORT. One lemma per shared operation that says all it can do: the accesses, the operand forms, the ends of an
instruction. -/

namespace Sys2Proof.Machine

/-! ## Lines of an instruction -/

@[simp] theorem Access.bind_done {α β : Type} (v : α) (s : State) (k : α → State → Access β) :
    (Access.done v s).bind k = k v s := rfl

@[simp] theorem Access.bind_exit {α β : Type} (r : ExitReason) (s : State) (k : α → State → Access β) :
    (Access.exit (α := α) r s).bind k = .exit r s := rfl

@[simp] theorem finish_done (r : Report) (s : State) : finish (.done r s) = .next (retire r.len r.cyc s) := rfl

@[simp] theorem finish_exit (r : ExitReason) (s : State) : finish (.exit r s) = .next (raiseExit r s) := rfl

@[simp] theorem raiseExit_status (r : ExitReason) (s : State) :
    (raiseExit r s).status = .exited r (pcAtExit r s) := rfl

@[simp] theorem pcAtExit_outOfBounds (a : Word) (k : AccessKind) (s : State) :
    pcAtExit (.outOfBounds a k) s = s.pc := by simp [pcAtExit]

@[simp] theorem pcAtExit_unimplemented (op : Byte) (s : State) : pcAtExit (.unimplemented op) s = s.pc := by
  simp [pcAtExit]

/-! ## Byte accesses -/

/-- What a read can do: return the byte and use up a draw, or exit. -/
theorem memRead_of_readable {s : State} {a : Word} (h : readable s a = true) :
    memRead s a = .done (valueAt s a) (afterRead s a) := by
  unfold memRead valueAt afterRead
  unfold readable at h
  split <;> simp_all

theorem memRead_of_not_readable {s : State} {a : Word} (h : readable s a = false) :
    memRead s a = .exit (.outOfBounds a .read) s := by
  unfold memRead
  unfold readable at h
  split <;> simp_all

/-- Whether a write is accepted does not depend on the byte. -/
theorem busWrite_isSome (s : State) (a : Word) (v : Byte) : (busWrite s a v).isSome = writable s a := by
  unfold writable busWrite
  split <;> rfl

/-- What a write can do: the state after it, or exit. -/
theorem memWrite_of_writable {s : State} {a : Word} (v : Byte) (h : writable s a = true) :
    memWrite s a v = .done () (afterWrite s a v) := by
  rw [← busWrite_isSome s a v] at h
  obtain ⟨t, ht⟩ := Option.isSome_iff_exists.mp h
  simp [memWrite, afterWrite, ht]

theorem memWrite_of_not_writable {s : State} {a : Word} (v : Byte) (h : writable s a = false) :
    memWrite s a v = .exit (.outOfBounds a .write) s := by
  rw [← busWrite_isSome s a v] at h
  simp only [Option.isSome_eq_false_iff, Option.isNone_iff_eq_none] at h
  simp [memWrite, h]

/-- A read changes the draw count and nothing else (20_memory.md R78). -/
theorem afterRead_eq (s : State) (a : Word) : ∃ n, afterRead s a = { s with drawCount := n } := by
  unfold afterRead
  split
  · exact ⟨_, rfl⟩
  · exact ⟨s.drawCount, rfl⟩
  · exact ⟨s.drawCount, rfl⟩

/-- Everything a write can do: nothing, or one store, register or lock changed. -/
theorem afterWrite_cases (s : State) (a : Word) (v : Byte) :
    afterWrite s a v = s ∨
    (∃ k, route s a = .ram k ∧ afterWrite s a v = { s with ram := s.ram.write k v }) ∨
    (route s a = .ifr ∧ afterWrite s a v = { s with ifr := v }) ∨
    (route s a = .ier ∧ afterWrite s a v = { s with ier := v }) ∨
    (route s a = .scy ∧ afterWrite s a v = { s with scy := v }) ∨
    (route s a = .scx ∧ afterWrite s a v = { s with scx := v }) ∨
    (route s a = .bootLock ∧ v.getLsbD 0 = true ∧ afterWrite s a v = { s with bootLocked := true }) := by
  unfold afterWrite busWrite
  split <;> rename_i h
  · split <;> exact .inl rfl
  · split <;> exact .inl rfl
  · exact .inr (.inl ⟨_, h, rfl⟩)
  · exact .inr (.inr (.inl ⟨h, rfl⟩))
  · exact .inr (.inr (.inr (.inl ⟨h, rfl⟩)))
  · exact .inr (.inr (.inr (.inr (.inl ⟨h, rfl⟩))))
  · exact .inr (.inr (.inr (.inr (.inr (.inl ⟨h, rfl⟩)))))
  · exact .inl rfl
  · exact .inl rfl
  · split
    · rename_i hb; exact .inr (.inr (.inr (.inr (.inr (.inr ⟨h, hb, rfl⟩)))))
    · exact .inl rfl
  · exact .inl rfl

/-! ## What the decoder's answer depends on -/

/-- The routing of an address depends on the lock and on `IO_STUB_SET`. -/
theorem route_congr {s t : State} (a : Word) (hb : t.bootLocked = s.bootLocked) (hp : t.params = s.params) :
    route t a = route s a := by unfold route; rw [hb, hp]

/-- A read of a byte depends on the stores, the storage bytes, the scroll registers, the line and the routing. -/
theorem busRead_congr {s t : State} (a : Word) (hb : t.bootLocked = s.bootLocked) (hp : t.params = s.params)
    (h1 : t.boot = s.boot) (h2 : t.rom = s.rom) (h3 : t.romLen = s.romLen) (h4 : t.ram = s.ram) (h5 : t.ifr = s.ifr)
    (h6 : t.ier = s.ier) (h7 : t.scy = s.scy) (h8 : t.scx = s.scx) (h9 : route s a ≠ .ly ∨ t.line = s.line) :
    busRead t a = busRead s a := by
  unfold busRead
  rw [route_congr a hb hp]
  split <;> simp_all

@[simp] theorem route_afterRead (s : State) (a b : Word) : route (afterRead s a) b = route s b := by
  obtain ⟨n, h⟩ := afterRead_eq s a
  rw [h]; rfl

@[simp] theorem busRead_afterRead (s : State) (a b : Word) : busRead (afterRead s a) b = busRead s b := by
  obtain ⟨n, h⟩ := afterRead_eq s a
  rw [h]; rfl

@[simp] theorem readable_afterRead (s : State) (a b : Word) : readable (afterRead s a) b = readable s b := by
  simp [readable]

/-- Whether a write is accepted, by what answers the address. -/
theorem writable_eq (s : State) (a : Word) : writable s a =
    match route s a with
    | .boot _ | .rom _ => s.params.romWrite == .ignore
    | .unmapped => false
    | _ => true := by
  unfold writable busWrite
  cases route s a <;> first | rfl | (cases s.params.romWrite <;> rfl)

/-- Below 0x8000 an image answers, whatever the lock is. -/
theorem route_low (s : State) {a : Word} (h : a.toNat < 0x8000) :
    (∃ o, route s a = .boot o) ∨ ∃ o, route s a = .rom o := by
  unfold route
  simp only [h, if_true]
  split
  · exact .inl ⟨_, rfl⟩
  · exact .inr ⟨_, rfl⟩

/-- From 0x8000 on the routing depends on the parameters alone. -/
theorem route_high {s t : State} {a : Word} (h : ¬ a.toNat < 0x8000) (hp : t.params = s.params) :
    route t a = route s a := by
  unfold route
  simp only [h, if_false, hp]

/-- Everything the I/O window's routing can answer. -/
theorem routeIo_cases (p : Params) (n : Nat) :
    (n = 0xFF0F ∧ routeIo p n = .ifr) ∨ (n = 0xFF42 ∧ routeIo p n = .scy) ∨ (n = 0xFF43 ∧ routeIo p n = .scx) ∨
    (n = 0xFF44 ∧ routeIo p n = .ly) ∨ (n = 0xFF50 ∧ routeIo p n = .bootLock) ∨ routeIo p n = .stub ∨
    routeIo p n = .unmapped := by
  unfold routeIo
  by_cases h1 : n = 0xFF0F
  · simp [h1]
  by_cases h2 : inStubSet p n = true
  · simp only [h1, if_false, h2, if_true]
    split
    · exact .inr (.inl ⟨‹_›, rfl⟩)
    split
    · exact .inr (.inr (.inl ⟨‹_›, rfl⟩))
    split
    · exact .inr (.inr (.inr (.inl ⟨‹_›, rfl⟩)))
    split
    · exact .inr (.inr (.inr (.inr (.inl ⟨‹_›, rfl⟩))))
    · exact .inr (.inr (.inr (.inr (.inr (.inl rfl)))))
  · simp only [h1, if_false, h2]
    exact .inr (.inr (.inr (.inr (.inr (.inr rfl)))))

/-- Everything the routing can answer, with the addresses it answers so (20_memory.md R51). -/
theorem route_cases (s : State) (a : Word) :
    (a.toNat < 0x8000 ∧
      (route s a = .boot a.toNat ∧ a.toNat < 0x100 ∧ s.bootLocked = false ∨ route s a = .rom a.toNat)) ∨
    (ramKey (cellOf a) = true ∧ route s a = .ram (cellOf a)) ∨
    (a = 0xFF0F ∧ route s a = .ifr) ∨ (a = 0xFFFF ∧ route s a = .ier) ∨ (a = 0xFF42 ∧ route s a = .scy) ∨
    (a = 0xFF43 ∧ route s a = .scx) ∨ (a = 0xFF44 ∧ route s a = .ly) ∨ (a = 0xFF50 ∧ route s a = .bootLock) ∨
    (0xFE00 ≤ a.toNat ∧ a.toNat < 0xFF80 ∧ (route s a = .stub ∨ route s a = .unmapped)) := by
  have hlt := a.isLt
  have heq : ∀ w : Word, a.toNat = w.toNat → a = w := fun w => BitVec.eq_of_toNat_eq
  unfold route ramKey cellOf
  dsimp only
  split
  · split
    · exact .inl ⟨‹_›, .inl ⟨rfl, (‹_ ∧ _›).1, (‹_ ∧ _›).2⟩⟩
    · exact .inl ⟨‹_›, .inr rfl⟩
  split
  · rw [if_neg (by omega)]
    exact .inr (.inl ⟨by simp; omega, rfl⟩)
  split
  · rw [if_pos (by omega)]
    exact .inr (.inl ⟨by simp; omega, rfl⟩)
  split
  · exact .inr (.inr (.inr (.inr (.inr (.inr (.inr (.inr ⟨by omega, by omega, .inr rfl⟩)))))))
  split
  · rcases routeIo_cases s.params a.toNat with h | h | h | h | h | h | h
    · exact .inr (.inr (.inl ⟨heq _ h.1, h.2⟩))
    · exact .inr (.inr (.inr (.inr (.inl ⟨heq _ h.1, h.2⟩))))
    · exact .inr (.inr (.inr (.inr (.inr (.inl ⟨heq _ h.1, h.2⟩)))))
    · exact .inr (.inr (.inr (.inr (.inr (.inr (.inl ⟨heq _ h.1, h.2⟩))))))
    · exact .inr (.inr (.inr (.inr (.inr (.inr (.inr (.inl ⟨heq _ h.1, h.2⟩)))))))
    · exact .inr (.inr (.inr (.inr (.inr (.inr (.inr (.inr ⟨by omega, by omega, .inl h⟩)))))))
    · exact .inr (.inr (.inr (.inr (.inr (.inr (.inr (.inr ⟨by omega, by omega, .inr h⟩)))))))
  split
  · rw [if_neg (by omega)]
    exact .inr (.inl ⟨by simp; omega, rfl⟩)
  · exact .inr (.inr (.inr (.inl ⟨heq _ (by simp; omega), rfl⟩)))
/-- The read-write memory answers an address by its cell. -/
theorem route_ram {s : State} {a : Word} {k : Nat} (h : route s a = .ram k) : k = cellOf a ∧ ramKey k = true := by
  rcases route_cases s a with ⟨-, ⟨h', -, -⟩ | h'⟩ | ⟨hk, h'⟩ | ⟨-, h'⟩ | ⟨-, h'⟩ | ⟨-, h'⟩ | ⟨-, h'⟩ | ⟨-, h'⟩ |
    ⟨-, h'⟩ | ⟨-, -, h' | h'⟩ <;> rw [h] at h' <;> cases h'
  exact ⟨rfl, hk⟩

theorem route_ifr {s : State} {a : Word} (h : route s a = .ifr) : a = 0xFF0F := by
  rcases route_cases s a with ⟨-, ⟨h', -, -⟩ | h'⟩ | ⟨-, h'⟩ | ⟨ha, h'⟩ | ⟨ha, h'⟩ | ⟨ha, h'⟩ | ⟨ha, h'⟩ | ⟨ha, h'⟩ |
    ⟨ha, h'⟩ | ⟨-, -, h' | h'⟩ <;> rw [h] at h' <;> cases h'
  exact ha

theorem route_ier {s : State} {a : Word} (h : route s a = .ier) : a = 0xFFFF := by
  rcases route_cases s a with ⟨-, ⟨h', -, -⟩ | h'⟩ | ⟨-, h'⟩ | ⟨ha, h'⟩ | ⟨ha, h'⟩ | ⟨ha, h'⟩ | ⟨ha, h'⟩ | ⟨ha, h'⟩ |
    ⟨ha, h'⟩ | ⟨-, -, h' | h'⟩ <;> rw [h] at h' <;> cases h'
  exact ha

theorem route_scy {s : State} {a : Word} (h : route s a = .scy) : a = 0xFF42 := by
  rcases route_cases s a with ⟨-, ⟨h', -, -⟩ | h'⟩ | ⟨-, h'⟩ | ⟨ha, h'⟩ | ⟨ha, h'⟩ | ⟨ha, h'⟩ | ⟨ha, h'⟩ | ⟨ha, h'⟩ |
    ⟨ha, h'⟩ | ⟨-, -, h' | h'⟩ <;> rw [h] at h' <;> cases h'
  exact ha

theorem route_scx {s : State} {a : Word} (h : route s a = .scx) : a = 0xFF43 := by
  rcases route_cases s a with ⟨-, ⟨h', -, -⟩ | h'⟩ | ⟨-, h'⟩ | ⟨ha, h'⟩ | ⟨ha, h'⟩ | ⟨ha, h'⟩ | ⟨ha, h'⟩ | ⟨ha, h'⟩ |
    ⟨ha, h'⟩ | ⟨-, -, h' | h'⟩ <;> rw [h] at h' <;> cases h'
  exact ha

theorem route_ly {s : State} {a : Word} (h : route s a = .ly) : a = 0xFF44 := by
  rcases route_cases s a with ⟨-, ⟨h', -, -⟩ | h'⟩ | ⟨-, h'⟩ | ⟨ha, h'⟩ | ⟨ha, h'⟩ | ⟨ha, h'⟩ | ⟨ha, h'⟩ | ⟨ha, h'⟩ |
    ⟨ha, h'⟩ | ⟨-, -, h' | h'⟩ <;> rw [h] at h' <;> cases h'
  exact ha

theorem route_bootLock {s : State} {a : Word} (h : route s a = .bootLock) : a = 0xFF50 := by
  rcases route_cases s a with ⟨-, ⟨h', -, -⟩ | h'⟩ | ⟨-, h'⟩ | ⟨ha, h'⟩ | ⟨ha, h'⟩ | ⟨ha, h'⟩ | ⟨ha, h'⟩ | ⟨ha, h'⟩ |
    ⟨ha, h'⟩ | ⟨-, -, h' | h'⟩ <;> rw [h] at h' <;> cases h'
  exact ha

/-- Whether a write is accepted depends on the parameters alone. -/
theorem writable_congr {s t : State} (a : Word) (hp : t.params = s.params) : writable t a = writable s a := by
  rw [writable_eq, writable_eq, hp]
  by_cases h : a.toNat < 0x8000
  · rcases route_low s h with ⟨o, hs⟩ | ⟨o, hs⟩ <;> rcases route_low t h with ⟨o', ht⟩ | ⟨o', ht⟩ <;> rw [hs, ht]
  · rw [route_high h hp]

@[simp] theorem afterWrite_params (s : State) (a : Word) (v : Byte) : (afterWrite s a v).params = s.params := by
  rcases afterWrite_cases s a v with h | ⟨k, -, h⟩ | ⟨-, h⟩ | ⟨-, h⟩ | ⟨-, h⟩ | ⟨-, h⟩ | ⟨-, -, h⟩ <;> rw [h]

/-- A write moves no address between accepted and refused. -/
theorem writable_afterWrite (s : State) (a b : Word) (v : Byte) : writable (afterWrite s a v) b = writable s b :=
  writable_congr b (afterWrite_params s a v)

/-! ## Word accesses -/

theorem memRead16_of_readable {s : State} {a : Word} (h : readable16 s a = true) :
    memRead16 s a = .done (value16 s a) (afterRead16 s a) := by
  simp only [readable16, Bool.and_eq_true] at h
  unfold memRead16
  rw [memRead_of_readable h.1, Access.bind_done,
    memRead_of_readable (by rw [readable_afterRead]; exact h.2), Access.bind_done]
  rfl

theorem memWrite16_of_writable {s : State} {a : Word} (w : Word) (h : writable16 s a = true) :
    memWrite16 s a w = .done () (afterWrite16 s a w) := by
  simp only [writable16, Bool.and_eq_true] at h
  unfold memWrite16
  rw [memWrite_of_writable _ h.1, Access.bind_done,
    memWrite_of_writable _ (by rw [writable_afterWrite]; exact h.2)]
  rfl

/-! ## Operand forms -/

theorem loadLoc_loc {s : State} {o : Operand8} (h : srcReadable s o = true) :
    loadLoc (loc s o) s = .done (srcValue s o) (srcAfter s o) := by
  cases o with
  | reg r => rfl
  | atHL => exact memRead_of_readable h

theorem storeLoc_reg (r : Reg8) (v : Byte) (s : State) : storeLoc (.reg r) v s = .done () (s.setR8 r v) := rfl

theorem storeLoc_mem_of_writable {s : State} {a : Word} (v : Byte) (h : writable s a = true) :
    storeLoc (.mem a) v s = .done () (afterWrite s a v) := memWrite_of_writable v h

end Sys2Proof.Machine
end

