-- ==== Sys2Proof/Laws/Ppu.lean ====
section
/-! SUPPORT. What the PPU step, the hand-off steps and an instruction's normal end can change, and that the PPU's loop
ends with no transition due. -/

namespace Sys2Proof.Machine

/-- Everything a PPU transition can do: the clock, the mode, the line, FB and the phase, nothing else. -/
theorem ppuTransition_moves (s : State) : ∃ c m l b p,
    ppuTransition s = { s with clock := c, mode := m, line := l, fb := b, phase := p } := by
  unfold ppuTransition
  dsimp only
  split
  · exact ⟨_, _, _, _, _, rfl⟩
  · exact ⟨_, _, _, _, _, rfl⟩
  · split
    · unfold beginPublish
      split
      · exact ⟨_, _, _, _, _, rfl⟩
      · exact ⟨_, _, _, _, _, rfl⟩
    · exact ⟨_, _, _, _, _, rfl⟩
  · split
    · exact ⟨_, _, _, _, _, rfl⟩
    · exact ⟨_, _, _, _, _, rfl⟩

/-- The loop turns once for each transition that is due. -/
theorem ppuRunFuel_succ (n : Nat) (s : State) :
    ppuRunFuel (n + 1) s = if ppuDue s then ppuRunFuel n (ppuTransition s) else s := rfl

theorem ppuRunFuel_moves (n : Nat) (s : State) : ∃ c m l b p,
    ppuRunFuel n s = { s with clock := c, mode := m, line := l, fb := b, phase := p } := by
  induction n generalizing s with
  | zero => exact ⟨_, _, _, _, _, rfl⟩
  | succ n ih =>
    rw [ppuRunFuel_succ]
    split
    · obtain ⟨c, m, l, b, p, h⟩ := ppuTransition_moves s
      obtain ⟨c', m', l', b', p', h'⟩ := ih (ppuTransition s)
      exact ⟨c', m', l', b', p', by rw [h', h]⟩
    · exact ⟨_, _, _, _, _, rfl⟩

/-- Everything the PPU's loop can do. -/
theorem ppuRun_moves (s : State) : ∃ c m l b p,
    ppuRun s = { s with clock := c, mode := m, line := l, fb := b, phase := p } := ppuRunFuel_moves _ s

/-- Everything a PPU step can do. -/
theorem ppuStep_moves (t : Nat) (s : State) : ∃ c m l b p,
    ppuStep t s = { s with clock := c, mode := m, line := l, fb := b, phase := p } := by
  obtain ⟨c, m, l, b, p, h⟩ := ppuRun_moves { s with clock := s.clock + t }
  exact ⟨c, m, l, b, p, by rw [ppuStep, h]⟩

/-- Everything an instruction's normal end can do: pc goes on, and the PPU moves. -/
theorem retire_moves (len cyc : Nat) (s : State) : ∃ c m l b p, retire len cyc s =
    { s with pc := s.pc + BitVec.ofNat 16 len, clock := c, mode := m, line := l, fb := b, phase := p } := by
  obtain ⟨c, m, l, b, p, h⟩ := ppuStep_moves (4 * cyc) (s.setPc (s.pc + BitVec.ofNat 16 len))
  exact ⟨c, m, l, b, p, by rw [retire, h]; rfl⟩

theorem thr_pos (m : PpuMode) : 80 ≤ thr m := by cases m <;> decide

/-- A due transition takes ticks off the clock. -/
theorem ppuTransition_clock_lt {s : State} (h : ppuDue s = true) : (ppuTransition s).clock < s.clock := by
  have hc : (ppuTransition s).clock = clockAfter s.params.ppuOvershoot s.mode s.clock := by
    unfold ppuTransition
    dsimp only
    split <;> (try split) <;> (try (unfold beginPublish; split)) <;> simp_all [renderLine]
  simp only [ppuDue, Bool.and_eq_true, decide_eq_true_eq] at h
  have := thr_pos s.mode
  rw [hc]
  unfold clockAfter
  split <;> omega

theorem ppuRunFuel_settles (n : Nat) (s : State) (h : s.clock ≤ n) : ppuDue (ppuRunFuel n s) = false := by
  induction n generalizing s with
  | zero =>
    have := thr_pos s.mode
    have h0 : s.clock = 0 := by omega
    simp only [ppuRunFuel, ppuDue, h0, Bool.and_eq_false_iff, decide_eq_false_iff_not]
    exact .inr (by omega)
  | succ n ih =>
    rw [ppuRunFuel_succ]
    split
    · rename_i hd
      exact ih _ (by have := ppuTransition_clock_lt hd; omega)
    · rename_i hd; simpa using hd

/-- The loop ends with no transition due: the bound on its turns cuts nothing off. -/
theorem ppuRun_settles (s : State) : ppuDue (ppuRun s) = false := ppuRunFuel_settles _ s (le_refl _)

/-- More fuel than the clock changes nothing. -/
theorem ppuRunFuel_of_le (n m : Nat) (s : State) (hn : s.clock ≤ n) (hm : s.clock ≤ m) :
    ppuRunFuel n s = ppuRunFuel m s := by
  induction n generalizing m s with
  | zero =>
    have hs := ppuRunFuel_settles 0 s hn
    simp only [ppuRunFuel] at hs
    cases m with
    | zero => rfl
    | succ m => rw [ppuRunFuel_succ, hs]; rfl
  | succ n ih =>
    cases m with
    | zero =>
      have hs := ppuRunFuel_settles 0 s hm
      simp only [ppuRunFuel] at hs
      rw [ppuRunFuel_succ, hs]; rfl
    | succ m =>
      rw [ppuRunFuel_succ, ppuRunFuel_succ]
      split
      · rename_i hd
        have := ppuTransition_clock_lt hd
        exact ih m _ (by omega) (by omega)
      · rfl

/-- The loop, one turn at a time. -/
theorem ppuRun_eq (s : State) : ppuRun s = if ppuDue s then ppuRun (ppuTransition s) else s := by
  by_cases hd : ppuDue s = true
  · have hlt := ppuTransition_clock_lt hd
    obtain ⟨n, hn⟩ : ∃ n, s.clock = n + 1 := ⟨s.clock - 1, by omega⟩
    rw [ppuRun, hn, ppuRunFuel_succ, ppuRun]
    simp only [hd, if_true]
    exact ppuRunFuel_of_le _ _ _ (by omega) (le_refl _)
  · rw [ppuRun]
    cases hc : s.clock with
    | zero => simp [ppuRunFuel, hd]
    | succ n => rw [ppuRunFuel_succ]; simp [hd]

/-- The 640 bytes of a row. -/
theorem rowBytes_length (p : Polarity) (ram : Memory) (scx scy : Byte) (l : Nat) :
    (rowBytes p ram scx scy l).length = 640 := by
  simp [rowBytes, pixelBytes]

/-! ## The hand-off -/

/-- Everything a publication's end can do: the slot, the phase, and what the resumed PPU step moves. -/
theorem publish_moves (s : State) : ∃ c m l b p,
    publish s = { s with clock := c, mode := m, line := l, fb := b, slot := some s.fb, phase := p } := by
  obtain ⟨c, m, l, b, p, h⟩ := ppuRun_moves { s with slot := some s.fb, phase := .running }
  exact ⟨c, m, l, b, p, by rw [publish, h]⟩

/-- Everything the producer's hand-off step can do. -/
theorem handoffStep_moves (s : State) : ∃ c m l b p k f,
    handoffStep s =
      { s with clock := c, mode := m, line := l, fb := b, phase := p, consumed := k, slot := f } := by
  unfold handoffStep handoffAck
  split
  · exact ⟨_, _, _, _, _, _, _, rfl⟩
  · split
    · dsimp only
      split
      · obtain ⟨c, m, l, b, p, h⟩ := publish_moves { s with consumed := false }
        exact ⟨c, m, l, b, p, _, _, h⟩
      · exact ⟨_, _, _, _, _, _, _, rfl⟩
    · exact ⟨_, _, _, _, _, _, _, rfl⟩
  · split
    · obtain ⟨c, m, l, b, p, h⟩ := publish_moves s
      exact ⟨c, m, l, b, p, _, _, h⟩
    · exact ⟨_, _, _, _, _, _, _, rfl⟩

/-- Everything the consumer's turn can do. -/
theorem consumerTurn_moves (s : State) : ∃ k f g,
    consumerTurn s = { s with consumed := k, slot := f, held := g } := by
  unfold consumerTurn acknowledge receive
  split
  · split <;> exact ⟨_, _, _, rfl⟩
  · exact ⟨_, _, _, rfl⟩

end Sys2Proof.Machine
end

