-- ==== Sys2Proof/Laws/Exec.lean ====
section
/-! SUPPORT. Each family of rows runs its one shared operation, and what the stack and the operand forms do when no
access exits. -/

namespace Sys2Proof.Machine

/-! ## A row of a table runs the family's operation -/

theorem exec_instrLd {d o : Operand8} (h : ¬ (d = .atHL ∧ o = .atHL)) (s : State) :
    exec (instrLd d o) s = ldLoc d o s := by
  cases d with
  | reg r => cases o with
    | reg q => cases r <;> cases q <;> rfl
    | atHL => cases r <;> rfl
  | atHL => cases o with
    | reg q => cases q <;> rfl
    | atHL => exact absurd ⟨rfl, rfl⟩ h

theorem exec_instrLdImm (d : Operand8) (n : Byte) (s : State) : exec (instrLdImm d n) s = ldLocImm d n s := by
  cases d with
  | reg r => cases r <;> rfl
  | atHL => rfl

theorem exec_instrAlu (op : AluOp) (o : Operand8) (s : State) : exec (instrAlu op o) s = aluLoc op o s := by
  cases o with
  | reg q => cases op <;> cases q <;> rfl
  | atHL => cases op <;> rfl

theorem exec_instrAluImm (op : AluOp) (n : Byte) (s : State) : exec (instrAluImm op n) s = aluImm op n s := by
  cases op <;> rfl

theorem exec_instrInc8 (o : Operand8) (s : State) : exec (instrInc8 o) s = incLoc o s := by
  cases o with
  | reg q => cases q <;> rfl
  | atHL => rfl

theorem exec_instrDec8 (o : Operand8) (s : State) : exec (instrDec8 o) s = decLoc o s := by
  cases o with
  | reg q => cases q <;> rfl
  | atHL => rfl

theorem exec_instrShift (op : ShiftOp) (o : Operand8) (s : State) : exec (instrShift op o) s = shiftLoc op o s := by
  cases o with
  | reg q => cases op <;> cases q <;> rfl
  | atHL => cases op <;> rfl

theorem exec_instrBit (k : Fin 8) (o : Operand8) (s : State) : exec (instrBit k o) s = bitLoc k o s := by
  cases o with
  | reg q => fin_cases k <;> cases q <;> rfl
  | atHL => fin_cases k <;> rfl

theorem exec_instrRes (k : Fin 8) (o : Operand8) (s : State) : exec (instrRes k o) s = resLoc k o s := by
  cases o with
  | reg q => fin_cases k <;> cases q <;> rfl
  | atHL => fin_cases k <;> rfl

theorem exec_instrSet (k : Fin 8) (o : Operand8) (s : State) : exec (instrSet k o) s = setLoc k o s := by
  cases o with
  | reg q => fin_cases k <;> cases q <;> rfl
  | atHL => fin_cases k <;> rfl

theorem exec_instrLdWord (r : Reg16) (w : Word) (s : State) : exec (instrLdWord r w) s = ldWord r w s := by
  cases r <;> rfl

theorem exec_instrInc16 (r : Reg16) (s : State) : exec (instrInc16 r) s = inc16 r s := by cases r <;> rfl

theorem exec_instrDec16 (r : Reg16) (s : State) : exec (instrDec16 r) s = dec16 r s := by cases r <;> rfl

theorem exec_instrAddHL (r : Reg16) (s : State) : exec (instrAddHL r) s = addHL r s := by cases r <;> rfl

theorem exec_instrPush (r : StackReg) (s : State) : exec (instrPush r) s = pushReg r s := by cases r <;> rfl

theorem exec_instrPop (r : StackReg) (s : State) : exec (instrPop r) s = popReg r s := by cases r <;> rfl

theorem exec_instrJrCc (j : Cond) (e : Byte) (s : State) : exec (instrJrCc j e) s = jumpRelCc j e s := by
  cases j <;> rfl

theorem exec_instrJpCc (j : Cond) (a : Word) (s : State) : exec (instrJpCc j a) s = jumpCc j a s := by cases j <;> rfl

theorem exec_instrCallCc (j : Cond) (a : Word) (s : State) : exec (instrCallCc j a) s = callCc j a s := by
  cases j <;> rfl

theorem exec_instrRetCc (j : Cond) (s : State) : exec (instrRetCc j) s = retCc j s := by cases j <;> rfl

theorem exec_instrRst (y : Fin 8) (s : State) : exec (instrRst y) s = restart y s := by fin_cases y <;> rfl

theorem exec_instrAccRot (op : AccRot) (s : State) : exec (instrAccRot op) s = accRotate op s := by cases op <;> rfl

theorem exec_instrIllegal (k : IllegalOp) (s : State) : exec (instrIllegal k) s = illegal k.byte s := by
  cases k <;> rfl

theorem runExtended_eq (cb : Byte) (s : State) : runExtended cb s = exec (decodeExtended cb) s := by
  unfold runExtended decodeExtended
  cases fieldX cb using Fin.cases with
  | zero => exact (exec_instrShift _ _ s).symm
  | succ i =>
    fin_cases i
    · exact (exec_instrBit _ _ s).symm
    · exact (exec_instrRes _ _ s).symm
    · exact (exec_instrSet _ _ s).symm

/-! ## What an access keeps -/

@[simp] theorem afterRead_pc (s : State) (a : Word) : (afterRead s a).pc = s.pc := by
  obtain ⟨n, h⟩ := afterRead_eq s a; rw [h]

@[simp] theorem afterRead_sp (s : State) (a : Word) : (afterRead s a).sp = s.sp := by
  obtain ⟨n, h⟩ := afterRead_eq s a; rw [h]

@[simp] theorem afterRead_a (s : State) (a : Word) : (afterRead s a).a = s.a := by
  obtain ⟨n, h⟩ := afterRead_eq s a; rw [h]

@[simp] theorem afterRead_f (s : State) (a : Word) : (afterRead s a).f = s.f := by
  obtain ⟨n, h⟩ := afterRead_eq s a; rw [h]

@[simp] theorem afterRead_hl (s : State) (a : Word) : (afterRead s a).hl = s.hl := by
  obtain ⟨n, h⟩ := afterRead_eq s a; rw [h]; rfl

@[simp] theorem afterRead_params (s : State) (a : Word) : (afterRead s a).params = s.params := by
  obtain ⟨n, h⟩ := afterRead_eq s a; rw [h]

@[simp] theorem writable_afterRead (s : State) (a b : Word) : writable (afterRead s a) b = writable s b :=
  writable_congr b (afterRead_params s a)

@[simp] theorem afterWrite_pc (s : State) (a : Word) (v : Byte) : (afterWrite s a v).pc = s.pc := by
  rcases afterWrite_cases s a v with h | ⟨k, -, h⟩ | ⟨-, h⟩ | ⟨-, h⟩ | ⟨-, h⟩ | ⟨-, h⟩ | ⟨-, -, h⟩ <;> rw [h]

@[simp] theorem afterWrite_f (s : State) (a : Word) (v : Byte) : (afterWrite s a v).f = s.f := by
  rcases afterWrite_cases s a v with h | ⟨k, -, h⟩ | ⟨-, h⟩ | ⟨-, h⟩ | ⟨-, h⟩ | ⟨-, h⟩ | ⟨-, -, h⟩ <;> rw [h]

@[simp] theorem srcAfter_a (s : State) (o : Operand8) : (srcAfter s o).a = s.a := by
  cases o <;> simp [srcAfter]

@[simp] theorem srcAfter_f (s : State) (o : Operand8) : (srcAfter s o).f = s.f := by
  cases o <;> simp [srcAfter]

@[simp] theorem srcAfter_params (s : State) (o : Operand8) : (srcAfter s o).params = s.params := by
  cases o <;> simp [srcAfter]

/-! ## What an operand form does where its accesses do not exit -/

theorem byForm_r8 (z : Fin 8) (a b : Nat) : byForm (r8 z) a b = if z = 6 then b else a := by
  fin_cases z <;> rfl

/-- The store of a result over the operand just read. -/
theorem storeLoc_srcAfter {s : State} {o : Operand8} (v : Byte) (h : dstWritable s o = true) :
    storeLoc (loc s o) v (srcAfter s o) = .done () (dstAfter (srcAfter s o) o v) := by
  cases o with
  | reg r => rfl
  | atHL =>
    have hw : writable (afterRead s s.hl) s.hl = true := by rw [writable_afterRead]; exact h
    show memWrite (afterRead s s.hl) s.hl v = .done () (afterWrite (afterRead s s.hl) (afterRead s s.hl).hl v)
    rw [memWrite_of_writable v hw, afterRead_hl]

theorem aluLoc_eq (op : AluOp) {o : Operand8} {s : State} (h : srcReadable s o = true) :
    aluLoc op o s = .next (retire 1 (byForm o 1 2) (aluApply op (srcValue s o) (srcAfter s o))) := by
  unfold aluLoc
  rw [loadLoc_loc h]; rfl

theorem push16_eq {s : State} (w : Word) (h : writable16 s (s.sp - 2) = true) :
    push16 s w = .done () (afterWrite16 { s with sp := s.sp - 2 } (s.sp - 2) w) :=
  memWrite16_of_writable (s := s.setSp (s.sp - 2)) w
    (by
      have hw : ∀ b, writable (s.setSp (s.sp - 2)) b = writable s b := fun b => writable_congr b rfl
      simpa only [writable16, hw] using h)

theorem pop16_eq {s : State} (h : readable16 s s.sp = true) :
    pop16 s = .done (value16 s s.sp) { afterRead16 s s.sp with sp := s.sp + 2 } := by
  unfold pop16
  rw [memRead16_of_readable h, Access.bind_done]
  unfold State.setSp afterRead16
  rw [afterRead_sp, afterRead_sp]

end Sys2Proof.Machine
end

