-- ==== Sys2Proof/Laws/Ends.lean ====
section
/-! SUPPORT. Once for all instructions: what an instruction's body can change before its end, and the two ends it can
come to. -/

namespace Sys2Proof.Machine

/-- What no instruction's body changes, and how the lock and the read-write memory may move. -/
structure BodyKeeps (s u : State) : Prop where
  boot : u.boot = s.boot
  rom : u.rom = s.rom
  romLen : u.romLen = s.romLen
  clock : u.clock = s.clock
  mode : u.mode = s.mode
  line : u.line = s.line
  fb : u.fb = s.fb
  consumed : u.consumed = s.consumed
  slot : u.slot = s.slot
  phase : u.phase = s.phase
  held : u.held = s.held
  status : u.status = s.status
  params : u.params = s.params
  turns : u.turns = s.turns
  turnCount : u.turnCount = s.turnCount
  bootLocked : s.bootLocked = true → u.bootLocked = true
  ramWf : s.ram.wf = true → u.ram.wf = true
  ramKeys : keysOk ramKey s.ram = true → keysOk ramKey u.ram = true

theorem BodyKeeps.refl (s : State) : BodyKeeps s s :=
  ⟨rfl, rfl, rfl, rfl, rfl, rfl, rfl, rfl, rfl, rfl, rfl, rfl, rfl, rfl, rfl, id, id, id⟩

theorem BodyKeeps.trans {s t u : State} (h : BodyKeeps s t) (k : BodyKeeps t u) : BodyKeeps s u :=
  ⟨k.boot.trans h.boot, k.rom.trans h.rom, k.romLen.trans h.romLen, k.clock.trans h.clock, k.mode.trans h.mode,
    k.line.trans h.line, k.fb.trans h.fb, k.consumed.trans h.consumed, k.slot.trans h.slot, k.phase.trans h.phase,
    k.held.trans h.held, k.status.trans h.status, k.params.trans h.params, k.turns.trans h.turns,
    k.turnCount.trans h.turnCount, k.bootLocked ∘ h.bootLocked, k.ramWf ∘ h.ramWf, k.ramKeys ∘ h.ramKeys⟩

/-- The registers, the flags, SP, pc, IME and the draw count are the body's to write. -/
theorem BodyKeeps.cpu (s : State) (a b c d e h l : Byte) (f : Flags) (sp pc : Word) (ime : Bool) (n : Nat) :
    BodyKeeps s { s with
      a := a, b := b, c := c, d := d, e := e, h := h, l := l, f := f, sp := sp, pc := pc, ime := ime
      drawCount := n } :=
  ⟨rfl, rfl, rfl, rfl, rfl, rfl, rfl, rfl, rfl, rfl, rfl, rfl, rfl, rfl, rfl, id, id, id⟩

theorem BodyKeeps.afterRead (s : State) (a : Word) : BodyKeeps s (afterRead s a) := by
  obtain ⟨n, h⟩ := afterRead_eq s a
  rw [h]
  exact .cpu s _ _ _ _ _ _ _ _ _ _ _ n

theorem BodyKeeps.afterWrite (s : State) (a : Word) (v : Byte) : BodyKeeps s (afterWrite s a v) := by
  rcases afterWrite_cases s a v with h | ⟨k, hr, h⟩ | ⟨-, h⟩ | ⟨-, h⟩ | ⟨-, h⟩ | ⟨-, h⟩ | ⟨-, -, h⟩ <;> rw [h]
  · exact .refl s
  · exact ⟨rfl, rfl, rfl, rfl, rfl, rfl, rfl, rfl, rfl, rfl, rfl, rfl, rfl, rfl, rfl, id, Memory.wf_write,
      fun hk => Memory.keysOk_write hk (route_ram hr).2⟩
  all_goals exact ⟨rfl, rfl, rfl, rfl, rfl, rfl, rfl, rfl, rfl, rfl, rfl, rfl, rfl, rfl, rfl, by simp, id, id⟩

theorem BodyKeeps.setR8 (s : State) (r : Reg8) (v : Byte) : BodyKeeps s (s.setR8 r v) := by
  cases r <;> exact .cpu s _ _ _ _ _ _ _ _ _ _ _ _

theorem BodyKeeps.setF (s : State) (f : Flags) : BodyKeeps s (s.setF f) := .cpu s _ _ _ _ _ _ _ _ _ _ _ _

theorem BodyKeeps.setSp (s : State) (w : Word) : BodyKeeps s (s.setSp w) := .cpu s _ _ _ _ _ _ _ _ _ _ _ _

theorem BodyKeeps.setPc (s : State) (w : Word) : BodyKeeps s (s.setPc w) := .cpu s _ _ _ _ _ _ _ _ _ _ _ _

theorem BodyKeeps.setIme (s : State) (v : Bool) : BodyKeeps s (s.setIme v) := .cpu s _ _ _ _ _ _ _ _ _ _ _ _

theorem BodyKeeps.setHl (s : State) (w : Word) : BodyKeeps s (s.setHl w) := .cpu s _ _ _ _ _ _ _ _ _ _ _ _

theorem BodyKeeps.setR16 (s : State) (r : Reg16) (w : Word) : BodyKeeps s (s.setR16 r w) := by
  cases r <;> exact .cpu s _ _ _ _ _ _ _ _ _ _ _ _

theorem BodyKeeps.setStack (s : State) (r : StackReg) (w : Word) : BodyKeeps s (s.setStack r w) := by
  cases r <;> exact .cpu s _ _ _ _ _ _ _ _ _ _ _ _

/-! ## Lines -/

/-- The state a line leaves keeps what a body keeps, and `Clean` is never raised (60_exceptions.md R334). -/
def Access.Keeps {α : Type} (s : State) : Access α → Prop
  | .done _ u => BodyKeeps s u
  | .exit r u => r ≠ .clean ∧ BodyKeeps s u

theorem Access.Keeps.trans {α : Type} {s t : State} {x : Access α} (h : BodyKeeps s t) (hx : x.Keeps t) :
    x.Keeps s := by
  cases x with
  | done v u => exact h.trans hx
  | exit r u => exact ⟨hx.1, h.trans hx.2⟩

theorem Access.Keeps.bind {α β : Type} {s : State} {x : Access α} {k : α → State → Access β} (hx : x.Keeps s)
    (hk : ∀ v t, (k v t).Keeps t) : (x.bind k).Keeps s := by
  cases x with
  | done v u => exact (hk v u).trans hx
  | exit r u => exact hx

theorem memRead_keeps (s : State) (a : Word) : (memRead s a).Keeps s := by
  by_cases h : readable s a = true
  · rw [memRead_of_readable h]; exact .afterRead s a
  · rw [memRead_of_not_readable (by simpa using h)]; exact ⟨by simp, .refl s⟩

theorem memWrite_keeps (s : State) (a : Word) (v : Byte) : (memWrite s a v).Keeps s := by
  by_cases h : writable s a = true
  · rw [memWrite_of_writable v h]; exact .afterWrite s a v
  · rw [memWrite_of_not_writable v (by simpa using h)]; exact ⟨by simp, .refl s⟩

theorem memRead16_keeps (s : State) (a : Word) : (memRead16 s a).Keeps s :=
  (memRead_keeps s a).bind fun _ t => (memRead_keeps t (a + 1)).bind fun _ u => .refl u

theorem memWrite16_keeps (s : State) (a w : Word) : (memWrite16 s a w).Keeps s :=
  (memWrite_keeps s a _).bind fun _ t => memWrite_keeps t (a + 1) _

theorem push16_keeps (s : State) (w : Word) : (push16 s w).Keeps s :=
  (memWrite16_keeps (s.setSp (s.sp - 2)) _ w).trans (.setSp s _)

theorem pop16_keeps (s : State) : (pop16 s).Keeps s := (memRead16_keeps s s.sp).bind fun _ t => .setSp t _

theorem loadLoc_keeps (x : Loc) (s : State) : (loadLoc x s).Keeps s := by
  cases x with
  | reg r => exact .refl s
  | mem a => exact memRead_keeps s a

theorem storeLoc_keeps (x : Loc) (v : Byte) (s : State) : (storeLoc x v s).Keeps s := by
  cases x with
  | reg r => exact .setR8 s r v
  | mem a => exact memWrite_keeps s a v

/-! ## Ends -/

/-- The two ends an instruction can come to: its report, or an exit that is not `Clean`. -/
def Ends (s : State) (x : Host.Outcome State Fault Refusal) : Prop :=
  ∃ u, BodyKeeps s u ∧
    ((∃ len cyc, x = .next (retire len cyc u)) ∨ ∃ r, r ≠ .clean ∧ x = .next (raiseExit r u))

theorem Ends.finish {s : State} {x : Access Report} (h : x.Keeps s) : Ends s (finish x) := by
  cases x with
  | done r u => exact ⟨u, h, .inl ⟨r.len, r.cyc, rfl⟩⟩
  | exit r u => exact ⟨u, h.2, .inr ⟨r, h.1, rfl⟩⟩

theorem Ends.trans {s t : State} {x : Host.Outcome State Fault Refusal} (h : BodyKeeps s t) (hx : Ends t x) :
    Ends s x := by
  obtain ⟨u, hu, he⟩ := hx
  exact ⟨u, h.trans hu, he⟩

theorem ldLoc_ends (d o : Operand8) (s : State) : Ends s (ldLoc d o s) :=
  .finish ((loadLoc_keeps _ s).bind fun _ t => (storeLoc_keeps _ _ t).bind fun _ u => .refl u)

theorem ldLocImm_ends (d : Operand8) (n : Byte) (s : State) : Ends s (ldLocImm d n s) :=
  .finish ((storeLoc_keeps _ _ s).bind fun _ u => .refl u)

theorem ldADirect_ends (len cyc : Nat) (a : Word) (s : State) : Ends s (ldADirect len cyc a s) :=
  .finish ((memRead_keeps s a).bind fun _ t => .setR8 t _ _)

theorem ldDirectA_ends (len cyc : Nat) (a : Word) (s : State) : Ends s (ldDirectA len cyc a s) :=
  .finish ((memWrite_keeps s a _).bind fun _ t => .refl t)

theorem ldAHLStep_ends (w : Word) (s : State) : Ends s (ldAHLStep w s) :=
  .finish ((memRead_keeps s _).bind fun _ t => BodyKeeps.trans (.setR8 t .a _) (.setHl _ _))

theorem ldHLAStep_ends (w : Word) (s : State) : Ends s (ldHLAStep w s) :=
  .finish ((memWrite_keeps s _ _).bind fun _ t => .setHl t _)

theorem ldWord_ends (r : Reg16) (w : Word) (s : State) : Ends s (ldWord r w s) :=
  .finish (x := .done ⟨3, 3⟩ _) (.setR16 s r w)

theorem ldWordSp_ends (a : Word) (s : State) : Ends s (ldWordSp a s) :=
  .finish ((memWrite16_keeps s a _).bind fun _ t => .refl t)

theorem ldSpHL_ends (s : State) : Ends s (ldSpHL s) := .finish (x := .done ⟨1, 2⟩ _) (.setSp s _)

theorem pushReg_ends (r : StackReg) (s : State) : Ends s (pushReg r s) :=
  .finish ((push16_keeps s _).bind fun _ t => .refl t)

theorem popReg_ends (r : StackReg) (s : State) : Ends s (popReg r s) :=
  .finish ((pop16_keeps s).bind fun _ t => .setStack t r _)

theorem aluApply_keeps (op : AluOp) (v : Byte) (s : State) : BodyKeeps s (aluApply op v s) := by
  cases op <;> first | exact .setF s _ | exact BodyKeeps.trans (.setR8 s .a _) (.setF _ _)

theorem aluLoc_ends (op : AluOp) (o : Operand8) (s : State) : Ends s (aluLoc op o s) :=
  .finish ((loadLoc_keeps _ s).bind fun _ t => aluApply_keeps op _ t)

theorem aluImm_ends (op : AluOp) (n : Byte) (s : State) : Ends s (aluImm op n s) :=
  .finish (x := .done ⟨2, 2⟩ _) (aluApply_keeps op n s)

theorem incLoc_ends (o : Operand8) (s : State) : Ends s (incLoc o s) :=
  .finish ((loadLoc_keeps _ s).bind fun _ t => (storeLoc_keeps _ _ t).bind fun _ u => .setF u _)

theorem decLoc_ends (o : Operand8) (s : State) : Ends s (decLoc o s) :=
  .finish ((loadLoc_keeps _ s).bind fun _ t => (storeLoc_keeps _ _ t).bind fun _ u => .setF u _)

theorem daa_ends (s : State) : Ends s (daa s) :=
  .finish (x := .done ⟨1, 1⟩ _) (BodyKeeps.trans (.setR8 s .a _) (.setF _ _))

theorem cpl_ends (s : State) : Ends s (cpl s) :=
  .finish (x := .done ⟨1, 1⟩ _) (BodyKeeps.trans (.setR8 s .a _) (.setF _ _))

theorem scf_ends (s : State) : Ends s (scf s) := .finish (x := .done ⟨1, 1⟩ _) (.setF s _)

theorem ccf_ends (s : State) : Ends s (ccf s) := .finish (x := .done ⟨1, 1⟩ _) (.setF s _)

theorem inc16_ends (r : Reg16) (s : State) : Ends s (inc16 r s) := .finish (x := .done ⟨1, 2⟩ _) (.setR16 s r _)

theorem dec16_ends (r : Reg16) (s : State) : Ends s (dec16 r s) := .finish (x := .done ⟨1, 2⟩ _) (.setR16 s r _)

theorem addHL_ends (r : Reg16) (s : State) : Ends s (addHL r s) :=
  .finish (x := .done ⟨1, 2⟩ _) (BodyKeeps.trans (.setHl s _) (.setF _ _))

theorem addSp_ends (e : Byte) (s : State) : Ends s (addSp e s) :=
  .finish (x := .done ⟨2, 4⟩ _) (BodyKeeps.trans (.setSp s _) (.setF _ _))

theorem ldHLSp_ends (e : Byte) (s : State) : Ends s (ldHLSp e s) :=
  .finish (x := .done ⟨2, 3⟩ _) (BodyKeeps.trans (.setHl s _) (.setF _ _))

theorem accRotate_ends (op : AccRot) (s : State) : Ends s (accRotate op s) :=
  .finish (x := .done ⟨1, 1⟩ _) (BodyKeeps.trans (.setR8 s .a _) (.setF _ _))

theorem shiftLoc_ends (op : ShiftOp) (o : Operand8) (s : State) : Ends s (shiftLoc op o s) :=
  .finish ((loadLoc_keeps _ s).bind fun _ t => (storeLoc_keeps _ _ t).bind fun _ u => .setF u _)

theorem bitLoc_ends (k : Fin 8) (o : Operand8) (s : State) : Ends s (bitLoc k o s) :=
  .finish ((loadLoc_keeps _ s).bind fun _ t => .setF t _)

theorem resLoc_ends (k : Fin 8) (o : Operand8) (s : State) : Ends s (resLoc k o s) :=
  .finish ((loadLoc_keeps _ s).bind fun _ t => (storeLoc_keeps _ _ t).bind fun _ u => .refl u)

theorem setLoc_ends (k : Fin 8) (o : Operand8) (s : State) : Ends s (setLoc k o s) :=
  .finish ((loadLoc_keeps _ s).bind fun _ t => (storeLoc_keeps _ _ t).bind fun _ u => .refl u)

theorem jump_ends (a : Word) (s : State) : Ends s (jump a s) := .finish (x := .done ⟨0, 4⟩ _) (.setPc s a)

theorem jumpHL_ends (s : State) : Ends s (jumpHL s) := .finish (x := .done ⟨0, 1⟩ _) (.setPc s _)

theorem jumpRel_ends (e : Byte) (s : State) : Ends s (jumpRel e s) := .finish (x := .done ⟨0, 3⟩ _) (.setPc s _)

theorem jumpCc_ends (j : Cond) (a : Word) (s : State) : Ends s (jumpCc j a s) := by
  unfold jumpCc
  split
  · exact .finish (x := .done ⟨0, 4⟩ _) (.setPc s a)
  · exact .finish (x := .done ⟨3, 3⟩ _) (.refl s)

theorem jumpRelCc_ends (j : Cond) (e : Byte) (s : State) : Ends s (jumpRelCc j e s) := by
  unfold jumpRelCc
  split
  · exact .finish (x := .done ⟨0, 3⟩ _) (.setPc s _)
  · exact .finish (x := .done ⟨2, 2⟩ _) (.refl s)

theorem callTo_keeps (len cyc : Nat) (a : Word) (s : State) : (callTo len cyc a s).Keeps s :=
  (push16_keeps s _).bind fun _ t => .setPc t a

theorem call_ends (a : Word) (s : State) : Ends s (call a s) := .finish (callTo_keeps 3 6 a s)

theorem callCc_ends (j : Cond) (a : Word) (s : State) : Ends s (callCc j a s) := by
  unfold callCc
  split
  · exact .finish (callTo_keeps 3 6 a s)
  · exact .finish (x := .done ⟨3, 3⟩ _) (.refl s)

theorem restart_ends (y : Fin 8) (s : State) : Ends s (restart y s) := .finish (callTo_keeps 1 4 _ s)

theorem retWith_keeps (cyc : Nat) (s : State) : (retWith cyc s).Keeps s :=
  (pop16_keeps s).bind fun v t => .setPc t v

theorem ret_ends (s : State) : Ends s (ret s) := .finish (retWith_keeps 4 s)

theorem retCc_ends (j : Cond) (s : State) : Ends s (retCc j s) := by
  unfold retCc
  split
  · exact .finish (retWith_keeps 5 s)
  · exact .finish (x := .done ⟨1, 2⟩ _) (.refl s)

theorem reti_ends (s : State) : Ends s (reti s) :=
  .finish ((retWith_keeps 4 s).bind fun _ t => .setIme t true)

theorem nop_ends (s : State) : Ends s (nop s) := .finish (x := .done ⟨1, 1⟩ _) (.refl s)

theorem halt_ends (s : State) : Ends s (halt s) := .finish (x := .exit .halt _) ⟨by simp, .refl s⟩

theorem stop_ends (s : State) : Ends s (stop s) := .finish (x := .exit .stop _) ⟨by simp, .refl s⟩

theorem writeIme_ends (v : Bool) (s : State) : Ends s (writeIme v s) := .finish (x := .done ⟨1, 1⟩ _) (.setIme s v)

theorem illegal_ends (op : Byte) (s : State) : Ends s (illegal op s) :=
  .finish (x := .exit (.unimplemented op) _) ⟨by simp, .refl s⟩

theorem runExtended_ends (cb : Byte) (s : State) : Ends s (runExtended cb s) := by
  unfold runExtended
  split
  · exact shiftLoc_ends _ _ s
  · exact bitLoc_ends _ _ s
  · exact resLoc_ends _ _ s
  · exact setLoc_ends _ _ s

theorem runPrefixed_ends (s : State) : Ends s (runPrefixed s) := by
  unfold runPrefixed
  have h := memRead_keeps s (s.pc + 1)
  split <;> rename_i hm <;> rw [hm] at h
  · exact (runExtended_ends _ _).trans h
  · exact ⟨_, h.2, .inr ⟨_, h.1, rfl⟩⟩

/-- EVERYTHING AN INSTRUCTION CAN DO: its body keeps what `BodyKeeps` lists, and it ends in its report or in an exit
that is not `Clean`; no instruction faults or is refused. -/
theorem exec_ends (i : Instr) (s : State) : Ends s (exec i s) :=
  match i with
  | .nop => nop_ends s
  | .ld_BC_d16 w => ldWord_ends .bc w s
  | .ld_atBC_A => ldDirectA_ends 1 2 s.bc s
  | .inc_BC => inc16_ends .bc s
  | .inc_B => incLoc_ends (.reg .b) s
  | .dec_B => decLoc_ends (.reg .b) s
  | .ld_B_d8 n => ldLocImm_ends (.reg .b) n s
  | .rlca => accRotate_ends .rlca s
  | .ld_atA16_SP a => ldWordSp_ends a s
  | .add_HL_BC => addHL_ends .bc s
  | .ld_A_atBC => ldADirect_ends 1 2 s.bc s
  | .dec_BC => dec16_ends .bc s
  | .inc_C => incLoc_ends (.reg .c) s
  | .dec_C => decLoc_ends (.reg .c) s
  | .ld_C_d8 n => ldLocImm_ends (.reg .c) n s
  | .rrca => accRotate_ends .rrca s
  | .stop => stop_ends s
  | .ld_DE_d16 w => ldWord_ends .de w s
  | .ld_atDE_A => ldDirectA_ends 1 2 s.de s
  | .inc_DE => inc16_ends .de s
  | .inc_D => incLoc_ends (.reg .d) s
  | .dec_D => decLoc_ends (.reg .d) s
  | .ld_D_d8 n => ldLocImm_ends (.reg .d) n s
  | .rla => accRotate_ends .rla s
  | .jr_e8 e => jumpRel_ends e s
  | .add_HL_DE => addHL_ends .de s
  | .ld_A_atDE => ldADirect_ends 1 2 s.de s
  | .dec_DE => dec16_ends .de s
  | .inc_E => incLoc_ends (.reg .e) s
  | .dec_E => decLoc_ends (.reg .e) s
  | .ld_E_d8 n => ldLocImm_ends (.reg .e) n s
  | .rra => accRotate_ends .rra s
  | .jr_NZ_e8 e => jumpRelCc_ends .nz e s
  | .ld_HL_d16 w => ldWord_ends .hl w s
  | .ld_atHLi_A => ldHLAStep_ends 1 s
  | .inc_HL => inc16_ends .hl s
  | .inc_H => incLoc_ends (.reg .h) s
  | .dec_H => decLoc_ends (.reg .h) s
  | .ld_H_d8 n => ldLocImm_ends (.reg .h) n s
  | .daa => daa_ends s
  | .jr_Z_e8 e => jumpRelCc_ends .z e s
  | .add_HL_HL => addHL_ends .hl s
  | .ld_A_atHLi => ldAHLStep_ends 1 s
  | .dec_HL => dec16_ends .hl s
  | .inc_L => incLoc_ends (.reg .l) s
  | .dec_L => decLoc_ends (.reg .l) s
  | .ld_L_d8 n => ldLocImm_ends (.reg .l) n s
  | .cpl => cpl_ends s
  | .jr_NC_e8 e => jumpRelCc_ends .nc e s
  | .ld_SP_d16 w => ldWord_ends .sp w s
  | .ld_atHLd_A => ldHLAStep_ends (-1) s
  | .inc_SP => inc16_ends .sp s
  | .inc_atHL => incLoc_ends .atHL s
  | .dec_atHL => decLoc_ends .atHL s
  | .ld_atHL_d8 n => ldLocImm_ends .atHL n s
  | .scf => scf_ends s
  | .jr_C_e8 e => jumpRelCc_ends .c e s
  | .add_HL_SP => addHL_ends .sp s
  | .ld_A_atHLd => ldAHLStep_ends (-1) s
  | .dec_SP => dec16_ends .sp s
  | .inc_A => incLoc_ends (.reg .a) s
  | .dec_A => decLoc_ends (.reg .a) s
  | .ld_A_d8 n => ldLocImm_ends (.reg .a) n s
  | .ccf => ccf_ends s
  | .ld_B_B => ldLoc_ends (.reg .b) (.reg .b) s
  | .ld_B_C => ldLoc_ends (.reg .b) (.reg .c) s
  | .ld_B_D => ldLoc_ends (.reg .b) (.reg .d) s
  | .ld_B_E => ldLoc_ends (.reg .b) (.reg .e) s
  | .ld_B_H => ldLoc_ends (.reg .b) (.reg .h) s
  | .ld_B_L => ldLoc_ends (.reg .b) (.reg .l) s
  | .ld_B_atHL => ldLoc_ends (.reg .b) .atHL s
  | .ld_B_A => ldLoc_ends (.reg .b) (.reg .a) s
  | .ld_C_B => ldLoc_ends (.reg .c) (.reg .b) s
  | .ld_C_C => ldLoc_ends (.reg .c) (.reg .c) s
  | .ld_C_D => ldLoc_ends (.reg .c) (.reg .d) s
  | .ld_C_E => ldLoc_ends (.reg .c) (.reg .e) s
  | .ld_C_H => ldLoc_ends (.reg .c) (.reg .h) s
  | .ld_C_L => ldLoc_ends (.reg .c) (.reg .l) s
  | .ld_C_atHL => ldLoc_ends (.reg .c) .atHL s
  | .ld_C_A => ldLoc_ends (.reg .c) (.reg .a) s
  | .ld_D_B => ldLoc_ends (.reg .d) (.reg .b) s
  | .ld_D_C => ldLoc_ends (.reg .d) (.reg .c) s
  | .ld_D_D => ldLoc_ends (.reg .d) (.reg .d) s
  | .ld_D_E => ldLoc_ends (.reg .d) (.reg .e) s
  | .ld_D_H => ldLoc_ends (.reg .d) (.reg .h) s
  | .ld_D_L => ldLoc_ends (.reg .d) (.reg .l) s
  | .ld_D_atHL => ldLoc_ends (.reg .d) .atHL s
  | .ld_D_A => ldLoc_ends (.reg .d) (.reg .a) s
  | .ld_E_B => ldLoc_ends (.reg .e) (.reg .b) s
  | .ld_E_C => ldLoc_ends (.reg .e) (.reg .c) s
  | .ld_E_D => ldLoc_ends (.reg .e) (.reg .d) s
  | .ld_E_E => ldLoc_ends (.reg .e) (.reg .e) s
  | .ld_E_H => ldLoc_ends (.reg .e) (.reg .h) s
  | .ld_E_L => ldLoc_ends (.reg .e) (.reg .l) s
  | .ld_E_atHL => ldLoc_ends (.reg .e) .atHL s
  | .ld_E_A => ldLoc_ends (.reg .e) (.reg .a) s
  | .ld_H_B => ldLoc_ends (.reg .h) (.reg .b) s
  | .ld_H_C => ldLoc_ends (.reg .h) (.reg .c) s
  | .ld_H_D => ldLoc_ends (.reg .h) (.reg .d) s
  | .ld_H_E => ldLoc_ends (.reg .h) (.reg .e) s
  | .ld_H_H => ldLoc_ends (.reg .h) (.reg .h) s
  | .ld_H_L => ldLoc_ends (.reg .h) (.reg .l) s
  | .ld_H_atHL => ldLoc_ends (.reg .h) .atHL s
  | .ld_H_A => ldLoc_ends (.reg .h) (.reg .a) s
  | .ld_L_B => ldLoc_ends (.reg .l) (.reg .b) s
  | .ld_L_C => ldLoc_ends (.reg .l) (.reg .c) s
  | .ld_L_D => ldLoc_ends (.reg .l) (.reg .d) s
  | .ld_L_E => ldLoc_ends (.reg .l) (.reg .e) s
  | .ld_L_H => ldLoc_ends (.reg .l) (.reg .h) s
  | .ld_L_L => ldLoc_ends (.reg .l) (.reg .l) s
  | .ld_L_atHL => ldLoc_ends (.reg .l) .atHL s
  | .ld_L_A => ldLoc_ends (.reg .l) (.reg .a) s
  | .ld_atHL_B => ldLoc_ends .atHL (.reg .b) s
  | .ld_atHL_C => ldLoc_ends .atHL (.reg .c) s
  | .ld_atHL_D => ldLoc_ends .atHL (.reg .d) s
  | .ld_atHL_E => ldLoc_ends .atHL (.reg .e) s
  | .ld_atHL_H => ldLoc_ends .atHL (.reg .h) s
  | .ld_atHL_L => ldLoc_ends .atHL (.reg .l) s
  | .halt => halt_ends s
  | .ld_atHL_A => ldLoc_ends .atHL (.reg .a) s
  | .ld_A_B => ldLoc_ends (.reg .a) (.reg .b) s
  | .ld_A_C => ldLoc_ends (.reg .a) (.reg .c) s
  | .ld_A_D => ldLoc_ends (.reg .a) (.reg .d) s
  | .ld_A_E => ldLoc_ends (.reg .a) (.reg .e) s
  | .ld_A_H => ldLoc_ends (.reg .a) (.reg .h) s
  | .ld_A_L => ldLoc_ends (.reg .a) (.reg .l) s
  | .ld_A_atHL => ldLoc_ends (.reg .a) .atHL s
  | .ld_A_A => ldLoc_ends (.reg .a) (.reg .a) s
  | .add_A_B => aluLoc_ends .add (.reg .b) s
  | .add_A_C => aluLoc_ends .add (.reg .c) s
  | .add_A_D => aluLoc_ends .add (.reg .d) s
  | .add_A_E => aluLoc_ends .add (.reg .e) s
  | .add_A_H => aluLoc_ends .add (.reg .h) s
  | .add_A_L => aluLoc_ends .add (.reg .l) s
  | .add_A_atHL => aluLoc_ends .add .atHL s
  | .add_A_A => aluLoc_ends .add (.reg .a) s
  | .adc_A_B => aluLoc_ends .adc (.reg .b) s
  | .adc_A_C => aluLoc_ends .adc (.reg .c) s
  | .adc_A_D => aluLoc_ends .adc (.reg .d) s
  | .adc_A_E => aluLoc_ends .adc (.reg .e) s
  | .adc_A_H => aluLoc_ends .adc (.reg .h) s
  | .adc_A_L => aluLoc_ends .adc (.reg .l) s
  | .adc_A_atHL => aluLoc_ends .adc .atHL s
  | .adc_A_A => aluLoc_ends .adc (.reg .a) s
  | .sub_B => aluLoc_ends .sub (.reg .b) s
  | .sub_C => aluLoc_ends .sub (.reg .c) s
  | .sub_D => aluLoc_ends .sub (.reg .d) s
  | .sub_E => aluLoc_ends .sub (.reg .e) s
  | .sub_H => aluLoc_ends .sub (.reg .h) s
  | .sub_L => aluLoc_ends .sub (.reg .l) s
  | .sub_atHL => aluLoc_ends .sub .atHL s
  | .sub_A => aluLoc_ends .sub (.reg .a) s
  | .sbc_A_B => aluLoc_ends .sbc (.reg .b) s
  | .sbc_A_C => aluLoc_ends .sbc (.reg .c) s
  | .sbc_A_D => aluLoc_ends .sbc (.reg .d) s
  | .sbc_A_E => aluLoc_ends .sbc (.reg .e) s
  | .sbc_A_H => aluLoc_ends .sbc (.reg .h) s
  | .sbc_A_L => aluLoc_ends .sbc (.reg .l) s
  | .sbc_A_atHL => aluLoc_ends .sbc .atHL s
  | .sbc_A_A => aluLoc_ends .sbc (.reg .a) s
  | .and_B => aluLoc_ends .and (.reg .b) s
  | .and_C => aluLoc_ends .and (.reg .c) s
  | .and_D => aluLoc_ends .and (.reg .d) s
  | .and_E => aluLoc_ends .and (.reg .e) s
  | .and_H => aluLoc_ends .and (.reg .h) s
  | .and_L => aluLoc_ends .and (.reg .l) s
  | .and_atHL => aluLoc_ends .and .atHL s
  | .and_A => aluLoc_ends .and (.reg .a) s
  | .xor_B => aluLoc_ends .xor (.reg .b) s
  | .xor_C => aluLoc_ends .xor (.reg .c) s
  | .xor_D => aluLoc_ends .xor (.reg .d) s
  | .xor_E => aluLoc_ends .xor (.reg .e) s
  | .xor_H => aluLoc_ends .xor (.reg .h) s
  | .xor_L => aluLoc_ends .xor (.reg .l) s
  | .xor_atHL => aluLoc_ends .xor .atHL s
  | .xor_A => aluLoc_ends .xor (.reg .a) s
  | .or_B => aluLoc_ends .or (.reg .b) s
  | .or_C => aluLoc_ends .or (.reg .c) s
  | .or_D => aluLoc_ends .or (.reg .d) s
  | .or_E => aluLoc_ends .or (.reg .e) s
  | .or_H => aluLoc_ends .or (.reg .h) s
  | .or_L => aluLoc_ends .or (.reg .l) s
  | .or_atHL => aluLoc_ends .or .atHL s
  | .or_A => aluLoc_ends .or (.reg .a) s
  | .cp_B => aluLoc_ends .cp (.reg .b) s
  | .cp_C => aluLoc_ends .cp (.reg .c) s
  | .cp_D => aluLoc_ends .cp (.reg .d) s
  | .cp_E => aluLoc_ends .cp (.reg .e) s
  | .cp_H => aluLoc_ends .cp (.reg .h) s
  | .cp_L => aluLoc_ends .cp (.reg .l) s
  | .cp_atHL => aluLoc_ends .cp .atHL s
  | .cp_A => aluLoc_ends .cp (.reg .a) s
  | .ret_NZ => retCc_ends .nz s
  | .pop_BC => popReg_ends .bc s
  | .jp_NZ_a16 a => jumpCc_ends .nz a s
  | .jp_a16 a => jump_ends a s
  | .call_NZ_a16 a => callCc_ends .nz a s
  | .push_BC => pushReg_ends .bc s
  | .add_A_d8 n => aluImm_ends .add n s
  | .rst_00H => restart_ends 0 s
  | .ret_Z => retCc_ends .z s
  | .ret => ret_ends s
  | .jp_Z_a16 a => jumpCc_ends .z a s
  | .prefix_CB => runPrefixed_ends s
  | .call_Z_a16 a => callCc_ends .z a s
  | .call_a16 a => call_ends a s
  | .adc_A_d8 n => aluImm_ends .adc n s
  | .rst_08H => restart_ends 1 s
  | .ret_NC => retCc_ends .nc s
  | .pop_DE => popReg_ends .de s
  | .jp_NC_a16 a => jumpCc_ends .nc a s
  | .illegal_D3 => illegal_ends 0xD3 s
  | .call_NC_a16 a => callCc_ends .nc a s
  | .push_DE => pushReg_ends .de s
  | .sub_d8 n => aluImm_ends .sub n s
  | .rst_10H => restart_ends 2 s
  | .ret_C => retCc_ends .c s
  | .reti => reti_ends s
  | .jp_C_a16 a => jumpCc_ends .c a s
  | .illegal_DB => illegal_ends 0xDB s
  | .call_C_a16 a => callCc_ends .c a s
  | .illegal_DD => illegal_ends 0xDD s
  | .sbc_A_d8 n => aluImm_ends .sbc n s
  | .rst_18H => restart_ends 3 s
  | .ldh_atA8_A n => ldDirectA_ends 2 3 (highPage n) s
  | .pop_HL => popReg_ends .hl s
  | .ld_atC_A => ldDirectA_ends 1 2 (highPage s.c) s
  | .illegal_E3 => illegal_ends 0xE3 s
  | .illegal_E4 => illegal_ends 0xE4 s
  | .push_HL => pushReg_ends .hl s
  | .and_d8 n => aluImm_ends .and n s
  | .rst_20H => restart_ends 4 s
  | .add_SP_e8 e => addSp_ends e s
  | .jp_HL => jumpHL_ends s
  | .ld_atA16_A a => ldDirectA_ends 3 4 a s
  | .illegal_EB => illegal_ends 0xEB s
  | .illegal_EC => illegal_ends 0xEC s
  | .illegal_ED => illegal_ends 0xED s
  | .xor_d8 n => aluImm_ends .xor n s
  | .rst_28H => restart_ends 5 s
  | .ldh_A_atA8 n => ldADirect_ends 2 3 (highPage n) s
  | .pop_AF => popReg_ends .af s
  | .ld_A_atC => ldADirect_ends 1 2 (highPage s.c) s
  | .di => writeIme_ends false s
  | .illegal_F4 => illegal_ends 0xF4 s
  | .push_AF => pushReg_ends .af s
  | .or_d8 n => aluImm_ends .or n s
  | .rst_30H => restart_ends 6 s
  | .ld_HL_SPe8 e => ldHLSp_ends e s
  | .ld_SP_HL => ldSpHL_ends s
  | .ld_A_atA16 a => ldADirect_ends 3 4 a s
  | .ei => writeIme_ends true s
  | .illegal_FC => illegal_ends 0xFC s
  | .illegal_FD => illegal_ends 0xFD s
  | .cp_d8 n => aluImm_ends .cp n s
  | .rst_38H => restart_ends 7 s
  | .rlc_B => shiftLoc_ends .rlc (.reg .b) s
  | .rlc_C => shiftLoc_ends .rlc (.reg .c) s
  | .rlc_D => shiftLoc_ends .rlc (.reg .d) s
  | .rlc_E => shiftLoc_ends .rlc (.reg .e) s
  | .rlc_H => shiftLoc_ends .rlc (.reg .h) s
  | .rlc_L => shiftLoc_ends .rlc (.reg .l) s
  | .rlc_atHL => shiftLoc_ends .rlc .atHL s
  | .rlc_A => shiftLoc_ends .rlc (.reg .a) s
  | .rrc_B => shiftLoc_ends .rrc (.reg .b) s
  | .rrc_C => shiftLoc_ends .rrc (.reg .c) s
  | .rrc_D => shiftLoc_ends .rrc (.reg .d) s
  | .rrc_E => shiftLoc_ends .rrc (.reg .e) s
  | .rrc_H => shiftLoc_ends .rrc (.reg .h) s
  | .rrc_L => shiftLoc_ends .rrc (.reg .l) s
  | .rrc_atHL => shiftLoc_ends .rrc .atHL s
  | .rrc_A => shiftLoc_ends .rrc (.reg .a) s
  | .rl_B => shiftLoc_ends .rl (.reg .b) s
  | .rl_C => shiftLoc_ends .rl (.reg .c) s
  | .rl_D => shiftLoc_ends .rl (.reg .d) s
  | .rl_E => shiftLoc_ends .rl (.reg .e) s
  | .rl_H => shiftLoc_ends .rl (.reg .h) s
  | .rl_L => shiftLoc_ends .rl (.reg .l) s
  | .rl_atHL => shiftLoc_ends .rl .atHL s
  | .rl_A => shiftLoc_ends .rl (.reg .a) s
  | .rr_B => shiftLoc_ends .rr (.reg .b) s
  | .rr_C => shiftLoc_ends .rr (.reg .c) s
  | .rr_D => shiftLoc_ends .rr (.reg .d) s
  | .rr_E => shiftLoc_ends .rr (.reg .e) s
  | .rr_H => shiftLoc_ends .rr (.reg .h) s
  | .rr_L => shiftLoc_ends .rr (.reg .l) s
  | .rr_atHL => shiftLoc_ends .rr .atHL s
  | .rr_A => shiftLoc_ends .rr (.reg .a) s
  | .sla_B => shiftLoc_ends .sla (.reg .b) s
  | .sla_C => shiftLoc_ends .sla (.reg .c) s
  | .sla_D => shiftLoc_ends .sla (.reg .d) s
  | .sla_E => shiftLoc_ends .sla (.reg .e) s
  | .sla_H => shiftLoc_ends .sla (.reg .h) s
  | .sla_L => shiftLoc_ends .sla (.reg .l) s
  | .sla_atHL => shiftLoc_ends .sla .atHL s
  | .sla_A => shiftLoc_ends .sla (.reg .a) s
  | .sra_B => shiftLoc_ends .sra (.reg .b) s
  | .sra_C => shiftLoc_ends .sra (.reg .c) s
  | .sra_D => shiftLoc_ends .sra (.reg .d) s
  | .sra_E => shiftLoc_ends .sra (.reg .e) s
  | .sra_H => shiftLoc_ends .sra (.reg .h) s
  | .sra_L => shiftLoc_ends .sra (.reg .l) s
  | .sra_atHL => shiftLoc_ends .sra .atHL s
  | .sra_A => shiftLoc_ends .sra (.reg .a) s
  | .swap_B => shiftLoc_ends .swap (.reg .b) s
  | .swap_C => shiftLoc_ends .swap (.reg .c) s
  | .swap_D => shiftLoc_ends .swap (.reg .d) s
  | .swap_E => shiftLoc_ends .swap (.reg .e) s
  | .swap_H => shiftLoc_ends .swap (.reg .h) s
  | .swap_L => shiftLoc_ends .swap (.reg .l) s
  | .swap_atHL => shiftLoc_ends .swap .atHL s
  | .swap_A => shiftLoc_ends .swap (.reg .a) s
  | .srl_B => shiftLoc_ends .srl (.reg .b) s
  | .srl_C => shiftLoc_ends .srl (.reg .c) s
  | .srl_D => shiftLoc_ends .srl (.reg .d) s
  | .srl_E => shiftLoc_ends .srl (.reg .e) s
  | .srl_H => shiftLoc_ends .srl (.reg .h) s
  | .srl_L => shiftLoc_ends .srl (.reg .l) s
  | .srl_atHL => shiftLoc_ends .srl .atHL s
  | .srl_A => shiftLoc_ends .srl (.reg .a) s
  | .bit_0_B => bitLoc_ends 0 (.reg .b) s
  | .bit_0_C => bitLoc_ends 0 (.reg .c) s
  | .bit_0_D => bitLoc_ends 0 (.reg .d) s
  | .bit_0_E => bitLoc_ends 0 (.reg .e) s
  | .bit_0_H => bitLoc_ends 0 (.reg .h) s
  | .bit_0_L => bitLoc_ends 0 (.reg .l) s
  | .bit_0_atHL => bitLoc_ends 0 .atHL s
  | .bit_0_A => bitLoc_ends 0 (.reg .a) s
  | .bit_1_B => bitLoc_ends 1 (.reg .b) s
  | .bit_1_C => bitLoc_ends 1 (.reg .c) s
  | .bit_1_D => bitLoc_ends 1 (.reg .d) s
  | .bit_1_E => bitLoc_ends 1 (.reg .e) s
  | .bit_1_H => bitLoc_ends 1 (.reg .h) s
  | .bit_1_L => bitLoc_ends 1 (.reg .l) s
  | .bit_1_atHL => bitLoc_ends 1 .atHL s
  | .bit_1_A => bitLoc_ends 1 (.reg .a) s
  | .bit_2_B => bitLoc_ends 2 (.reg .b) s
  | .bit_2_C => bitLoc_ends 2 (.reg .c) s
  | .bit_2_D => bitLoc_ends 2 (.reg .d) s
  | .bit_2_E => bitLoc_ends 2 (.reg .e) s
  | .bit_2_H => bitLoc_ends 2 (.reg .h) s
  | .bit_2_L => bitLoc_ends 2 (.reg .l) s
  | .bit_2_atHL => bitLoc_ends 2 .atHL s
  | .bit_2_A => bitLoc_ends 2 (.reg .a) s
  | .bit_3_B => bitLoc_ends 3 (.reg .b) s
  | .bit_3_C => bitLoc_ends 3 (.reg .c) s
  | .bit_3_D => bitLoc_ends 3 (.reg .d) s
  | .bit_3_E => bitLoc_ends 3 (.reg .e) s
  | .bit_3_H => bitLoc_ends 3 (.reg .h) s
  | .bit_3_L => bitLoc_ends 3 (.reg .l) s
  | .bit_3_atHL => bitLoc_ends 3 .atHL s
  | .bit_3_A => bitLoc_ends 3 (.reg .a) s
  | .bit_4_B => bitLoc_ends 4 (.reg .b) s
  | .bit_4_C => bitLoc_ends 4 (.reg .c) s
  | .bit_4_D => bitLoc_ends 4 (.reg .d) s
  | .bit_4_E => bitLoc_ends 4 (.reg .e) s
  | .bit_4_H => bitLoc_ends 4 (.reg .h) s
  | .bit_4_L => bitLoc_ends 4 (.reg .l) s
  | .bit_4_atHL => bitLoc_ends 4 .atHL s
  | .bit_4_A => bitLoc_ends 4 (.reg .a) s
  | .bit_5_B => bitLoc_ends 5 (.reg .b) s
  | .bit_5_C => bitLoc_ends 5 (.reg .c) s
  | .bit_5_D => bitLoc_ends 5 (.reg .d) s
  | .bit_5_E => bitLoc_ends 5 (.reg .e) s
  | .bit_5_H => bitLoc_ends 5 (.reg .h) s
  | .bit_5_L => bitLoc_ends 5 (.reg .l) s
  | .bit_5_atHL => bitLoc_ends 5 .atHL s
  | .bit_5_A => bitLoc_ends 5 (.reg .a) s
  | .bit_6_B => bitLoc_ends 6 (.reg .b) s
  | .bit_6_C => bitLoc_ends 6 (.reg .c) s
  | .bit_6_D => bitLoc_ends 6 (.reg .d) s
  | .bit_6_E => bitLoc_ends 6 (.reg .e) s
  | .bit_6_H => bitLoc_ends 6 (.reg .h) s
  | .bit_6_L => bitLoc_ends 6 (.reg .l) s
  | .bit_6_atHL => bitLoc_ends 6 .atHL s
  | .bit_6_A => bitLoc_ends 6 (.reg .a) s
  | .bit_7_B => bitLoc_ends 7 (.reg .b) s
  | .bit_7_C => bitLoc_ends 7 (.reg .c) s
  | .bit_7_D => bitLoc_ends 7 (.reg .d) s
  | .bit_7_E => bitLoc_ends 7 (.reg .e) s
  | .bit_7_H => bitLoc_ends 7 (.reg .h) s
  | .bit_7_L => bitLoc_ends 7 (.reg .l) s
  | .bit_7_atHL => bitLoc_ends 7 .atHL s
  | .bit_7_A => bitLoc_ends 7 (.reg .a) s
  | .res_0_B => resLoc_ends 0 (.reg .b) s
  | .res_0_C => resLoc_ends 0 (.reg .c) s
  | .res_0_D => resLoc_ends 0 (.reg .d) s
  | .res_0_E => resLoc_ends 0 (.reg .e) s
  | .res_0_H => resLoc_ends 0 (.reg .h) s
  | .res_0_L => resLoc_ends 0 (.reg .l) s
  | .res_0_atHL => resLoc_ends 0 .atHL s
  | .res_0_A => resLoc_ends 0 (.reg .a) s
  | .res_1_B => resLoc_ends 1 (.reg .b) s
  | .res_1_C => resLoc_ends 1 (.reg .c) s
  | .res_1_D => resLoc_ends 1 (.reg .d) s
  | .res_1_E => resLoc_ends 1 (.reg .e) s
  | .res_1_H => resLoc_ends 1 (.reg .h) s
  | .res_1_L => resLoc_ends 1 (.reg .l) s
  | .res_1_atHL => resLoc_ends 1 .atHL s
  | .res_1_A => resLoc_ends 1 (.reg .a) s
  | .res_2_B => resLoc_ends 2 (.reg .b) s
  | .res_2_C => resLoc_ends 2 (.reg .c) s
  | .res_2_D => resLoc_ends 2 (.reg .d) s
  | .res_2_E => resLoc_ends 2 (.reg .e) s
  | .res_2_H => resLoc_ends 2 (.reg .h) s
  | .res_2_L => resLoc_ends 2 (.reg .l) s
  | .res_2_atHL => resLoc_ends 2 .atHL s
  | .res_2_A => resLoc_ends 2 (.reg .a) s
  | .res_3_B => resLoc_ends 3 (.reg .b) s
  | .res_3_C => resLoc_ends 3 (.reg .c) s
  | .res_3_D => resLoc_ends 3 (.reg .d) s
  | .res_3_E => resLoc_ends 3 (.reg .e) s
  | .res_3_H => resLoc_ends 3 (.reg .h) s
  | .res_3_L => resLoc_ends 3 (.reg .l) s
  | .res_3_atHL => resLoc_ends 3 .atHL s
  | .res_3_A => resLoc_ends 3 (.reg .a) s
  | .res_4_B => resLoc_ends 4 (.reg .b) s
  | .res_4_C => resLoc_ends 4 (.reg .c) s
  | .res_4_D => resLoc_ends 4 (.reg .d) s
  | .res_4_E => resLoc_ends 4 (.reg .e) s
  | .res_4_H => resLoc_ends 4 (.reg .h) s
  | .res_4_L => resLoc_ends 4 (.reg .l) s
  | .res_4_atHL => resLoc_ends 4 .atHL s
  | .res_4_A => resLoc_ends 4 (.reg .a) s
  | .res_5_B => resLoc_ends 5 (.reg .b) s
  | .res_5_C => resLoc_ends 5 (.reg .c) s
  | .res_5_D => resLoc_ends 5 (.reg .d) s
  | .res_5_E => resLoc_ends 5 (.reg .e) s
  | .res_5_H => resLoc_ends 5 (.reg .h) s
  | .res_5_L => resLoc_ends 5 (.reg .l) s
  | .res_5_atHL => resLoc_ends 5 .atHL s
  | .res_5_A => resLoc_ends 5 (.reg .a) s
  | .res_6_B => resLoc_ends 6 (.reg .b) s
  | .res_6_C => resLoc_ends 6 (.reg .c) s
  | .res_6_D => resLoc_ends 6 (.reg .d) s
  | .res_6_E => resLoc_ends 6 (.reg .e) s
  | .res_6_H => resLoc_ends 6 (.reg .h) s
  | .res_6_L => resLoc_ends 6 (.reg .l) s
  | .res_6_atHL => resLoc_ends 6 .atHL s
  | .res_6_A => resLoc_ends 6 (.reg .a) s
  | .res_7_B => resLoc_ends 7 (.reg .b) s
  | .res_7_C => resLoc_ends 7 (.reg .c) s
  | .res_7_D => resLoc_ends 7 (.reg .d) s
  | .res_7_E => resLoc_ends 7 (.reg .e) s
  | .res_7_H => resLoc_ends 7 (.reg .h) s
  | .res_7_L => resLoc_ends 7 (.reg .l) s
  | .res_7_atHL => resLoc_ends 7 .atHL s
  | .res_7_A => resLoc_ends 7 (.reg .a) s
  | .set_0_B => setLoc_ends 0 (.reg .b) s
  | .set_0_C => setLoc_ends 0 (.reg .c) s
  | .set_0_D => setLoc_ends 0 (.reg .d) s
  | .set_0_E => setLoc_ends 0 (.reg .e) s
  | .set_0_H => setLoc_ends 0 (.reg .h) s
  | .set_0_L => setLoc_ends 0 (.reg .l) s
  | .set_0_atHL => setLoc_ends 0 .atHL s
  | .set_0_A => setLoc_ends 0 (.reg .a) s
  | .set_1_B => setLoc_ends 1 (.reg .b) s
  | .set_1_C => setLoc_ends 1 (.reg .c) s
  | .set_1_D => setLoc_ends 1 (.reg .d) s
  | .set_1_E => setLoc_ends 1 (.reg .e) s
  | .set_1_H => setLoc_ends 1 (.reg .h) s
  | .set_1_L => setLoc_ends 1 (.reg .l) s
  | .set_1_atHL => setLoc_ends 1 .atHL s
  | .set_1_A => setLoc_ends 1 (.reg .a) s
  | .set_2_B => setLoc_ends 2 (.reg .b) s
  | .set_2_C => setLoc_ends 2 (.reg .c) s
  | .set_2_D => setLoc_ends 2 (.reg .d) s
  | .set_2_E => setLoc_ends 2 (.reg .e) s
  | .set_2_H => setLoc_ends 2 (.reg .h) s
  | .set_2_L => setLoc_ends 2 (.reg .l) s
  | .set_2_atHL => setLoc_ends 2 .atHL s
  | .set_2_A => setLoc_ends 2 (.reg .a) s
  | .set_3_B => setLoc_ends 3 (.reg .b) s
  | .set_3_C => setLoc_ends 3 (.reg .c) s
  | .set_3_D => setLoc_ends 3 (.reg .d) s
  | .set_3_E => setLoc_ends 3 (.reg .e) s
  | .set_3_H => setLoc_ends 3 (.reg .h) s
  | .set_3_L => setLoc_ends 3 (.reg .l) s
  | .set_3_atHL => setLoc_ends 3 .atHL s
  | .set_3_A => setLoc_ends 3 (.reg .a) s
  | .set_4_B => setLoc_ends 4 (.reg .b) s
  | .set_4_C => setLoc_ends 4 (.reg .c) s
  | .set_4_D => setLoc_ends 4 (.reg .d) s
  | .set_4_E => setLoc_ends 4 (.reg .e) s
  | .set_4_H => setLoc_ends 4 (.reg .h) s
  | .set_4_L => setLoc_ends 4 (.reg .l) s
  | .set_4_atHL => setLoc_ends 4 .atHL s
  | .set_4_A => setLoc_ends 4 (.reg .a) s
  | .set_5_B => setLoc_ends 5 (.reg .b) s
  | .set_5_C => setLoc_ends 5 (.reg .c) s
  | .set_5_D => setLoc_ends 5 (.reg .d) s
  | .set_5_E => setLoc_ends 5 (.reg .e) s
  | .set_5_H => setLoc_ends 5 (.reg .h) s
  | .set_5_L => setLoc_ends 5 (.reg .l) s
  | .set_5_atHL => setLoc_ends 5 .atHL s
  | .set_5_A => setLoc_ends 5 (.reg .a) s
  | .set_6_B => setLoc_ends 6 (.reg .b) s
  | .set_6_C => setLoc_ends 6 (.reg .c) s
  | .set_6_D => setLoc_ends 6 (.reg .d) s
  | .set_6_E => setLoc_ends 6 (.reg .e) s
  | .set_6_H => setLoc_ends 6 (.reg .h) s
  | .set_6_L => setLoc_ends 6 (.reg .l) s
  | .set_6_atHL => setLoc_ends 6 .atHL s
  | .set_6_A => setLoc_ends 6 (.reg .a) s
  | .set_7_B => setLoc_ends 7 (.reg .b) s
  | .set_7_C => setLoc_ends 7 (.reg .c) s
  | .set_7_D => setLoc_ends 7 (.reg .d) s
  | .set_7_E => setLoc_ends 7 (.reg .e) s
  | .set_7_H => setLoc_ends 7 (.reg .h) s
  | .set_7_L => setLoc_ends 7 (.reg .l) s
  | .set_7_atHL => setLoc_ends 7 .atHL s
  | .set_7_A => setLoc_ends 7 (.reg .a) s

end Sys2Proof.Machine
end

