-- ==== Sys2Proof/Laws/Run.lean ====
section
/-! SUPPORT. What a fetch and a turn can change, and what an instruction that goes on has done, line by line. -/

namespace Sys2Proof.Machine

/-- Taking a turn off moves the turns and nothing else. -/
theorem takeTurn_eq (s : State) : ∃ l n, takeTurn s = { s with turns := l, turnCount := n } := by
  unfold takeTurn
  split
  · split <;> exact ⟨_, _, rfl⟩
  · exact ⟨s.turns, s.turnCount, rfl⟩

/-- A listed turn is taken off the list, and nothing else moves. -/
theorem takeTurn_of_listed {s : State} {agent : Agent} {rest : List Agent} (h : s.params.consumerAttached = true)
    (ht : s.turns = agent :: rest) : takeTurn s = { s with turns := rest } ∧ nextAgent s = agent := by
  simp [takeTurn, nextAgent, h, ht]

/-- Past the list's end a turn is counted, and nothing else moves. -/
theorem takeTurn_of_unlisted {s : State} (h : s.params.consumerAttached = true) (ht : s.turns = []) :
    takeTurn s = { s with turnCount := s.turnCount + 1 } ∧ nextAgent s = Config.laterTurn s.turnCount := by
  simp [takeTurn, nextAgent, h, ht]

/-- With no consumer attached every turn is the producer's and nothing moves. -/
theorem takeTurn_of_detached {s : State} (h : s.params.consumerAttached = false) :
    takeTurn s = s ∧ nextAgent s = .producer := by
  simp [takeTurn, nextAgent, h]

/-- The consumer's turn moves what R316 and R317 (49_frame_handoff.md) name and nothing else. -/
theorem consumerTurn_eq (s : State) : ∃ f k h, consumerTurn s = { s with slot := f, consumed := k, held := h } := by
  unfold consumerTurn
  split
  · split <;> exact ⟨_, _, _, rfl⟩
  · exact ⟨s.slot, s.consumed, s.held, rfl⟩

theorem readBytes_keeps (n : Nat) (a : Word) (s : State) : (readBytes n a s).Keeps s := by
  induction n generalizing a s with
  | zero => exact BodyKeeps.refl s
  | succ n ih => exact (memRead_keeps s a).bind fun _ t => (ih (a + 1) t).bind fun _ u => .refl u

/-- A fetch changes nothing an instruction's body does not, and raises no `Clean`. -/
theorem fetch_keeps (s : State) : (fetch s).Keeps s := by
  refine (memRead_keeps s s.pc).bind fun op t => ?_
  split
  · exact ⟨by simp, .refl t⟩
  · refine (readBytes_keeps _ _ t).bind fun rest u => ?_
    split
    · exact BodyKeeps.refl u
    · exact ⟨by simp, .refl u⟩

/-! ## Reading a body backwards -/

theorem Access.of_bind_done {α β : Type} {x : Access α} {k : α → State → Access β} {r : β} {u : State}
    (h : x.bind k = .done r u) : ∃ v t, x = .done v t ∧ k v t = .done r u := by
  cases x with
  | done v t => exact ⟨v, t, rfl, h⟩
  | exit r t => cases h

/-- An instruction after which the run goes on has made its report. -/
theorem of_runsTo_finish {x : Access Report} {t : State} (h : RunsTo (finish x) t) :
    ∃ r u, x = .done r u ∧ t = retire r.len r.cyc u := by
  obtain ⟨h, hs⟩ := h
  cases x with
  | done r u => cases h; exact ⟨r, u, rfl, rfl⟩
  | exit r u => cases h; cases hs

theorem of_memRead_done {s t : State} {a : Word} {v : Byte} (h : memRead s a = .done v t) :
    ∃ n, t = { s with drawCount := n } := by
  unfold memRead at h
  split at h <;> cases h
  · exact ⟨s.drawCount, rfl⟩
  · exact ⟨_, rfl⟩

theorem of_memWrite_done {s t : State} {a : Word} {v : Byte} (h : memWrite s a v = .done () t) :
    t = afterWrite s a v := by
  unfold memWrite at h
  unfold afterWrite
  split at h <;> cases h
  rename_i hw
  rw [hw]; rfl

theorem of_loadLoc_done {s t : State} {x : Loc} {v : Byte} (h : loadLoc x s = .done v t) :
    ∃ n, t = { s with drawCount := n } := by
  cases x with
  | reg r => cases h; exact ⟨s.drawCount, rfl⟩
  | mem a => exact of_memRead_done h

end Sys2Proof.Machine
end

