-- ==== Sys2Proof/Tests/Slice0.lean ====
section
/-! SUPPORT. Tests of one step each, with results from spec/95_test_vectors.md (its ids stand in the comments) or
computed by hand from the rules cited; and, for every obligation with hypotheses, a witness that meets them. -/

namespace Sys2Proof.Tests

open Sys2Proof Sys2Proof.Machine

/-! ## Helpers -/

/-- The next state, or the state itself where there is none. -/
def runs (s : State) (x : Host.Outcome State Fault Refusal) : State :=
  match x with
  | .next t => t
  | .fault _ => s
  | .refused _ => s

/-- One instruction's next state. -/
def after (i : Instr) (s : State) : State := runs s (exec i s)

/-- Whether there is a next state in which the run goes on. -/
def goesOn (x : Host.Outcome State Fault Refusal) : Bool :=
  match x with
  | .next t => decide (t.status = .running)
  | .fault _ => false
  | .refused _ => false

/-- The exit a next state holds. -/
def exitOf (x : Host.Outcome State Fault Refusal) : Option (ExitReason × Word) :=
  match x with
  | .next t => match t.status with
    | .exited reason pc => some (reason, pc)
    | .running => none
  | .fault _ => none
  | .refused _ => none

/-- Reset with the overlay locked, A, B and F given. -/
def ab (a b : Byte) (f : Byte) : State := { State.reset with bootLocked := true, a := a, b := b, f := Flags.ofByte f }

/-- A after, and F after, an instruction on A, B and F. -/
def aluAfter (i : Instr) (a b f : Byte) : Byte × Byte := ((after i (ab a b f)).a, (after i (ab a b f)).f.toByte)

/-- B after, and F after, an instruction on B and F. -/
def bAfter (i : Instr) (b f : Byte) : Byte × Byte := ((after i (ab 0 b f)).b, (after i (ab 0 b f)).f.toByte)

/-- A state that runs everything: HL, SP, BC and DE in work RAM, the overlay locked. -/
def good : State :=
  { State.reset with bootLocked := true, h := 0xC0, sp := 0xC100, b := 0xC2, d := 0xC3, a := 0x42, pc := 0xC400 }

/-- The good state with HL elsewhere. -/
def goodHL (w : Word) : State := good.setHl w

/-- The good state with HL in ROM and `ROM_WRITE` = `Fault`: readable, not writable. -/
def romFault : State := { goodHL 0 with params := { defaultParams with romWrite := .fault } }

/-- A state with a consumer attached and the turns given. -/
def attached (turns : List Agent) : State :=
  { good with params := { defaultParams with consumerAttached := true }, turns := turns }

/-- Bytes placed at pc of the good state. -/
def fetching (bytes : List Byte) : State := good.placeAll 0xC400 bytes

/-! ## What is ill-formed is refused -/

theorem test_bare_prefix_ill_formed : Instr.prefix_CB.wellFormed = false := by decide

theorem test_boot_image_short : bootImageOk (List.replicate 255 0) = false := by
  simp only [bootImageOk, List.length_replicate]; decide

theorem test_boot_image_ok : bootImageOk (List.replicate 256 0) = true := by
  simp only [bootImageOk, List.length_replicate]; decide

theorem test_rom_image_empty : romImageOk [] = false := by decide

theorem test_rom_image_long : romImageOk (List.replicate 32769 0) = false := by
  simp only [romImageOk, List.length_replicate]; decide

theorem test_rom_image_longest : romImageOk (List.replicate 32768 0) = true := by
  simp only [romImageOk, List.length_replicate]; decide

theorem test_decode_rejects_truncated : decode [0xC3, 0x50] = .rejected (.truncated 0xC3) ∧ decode [] = .rejected .empty :=
  by decide

/-! ## Decoding, words written out from 30_encoding.md R100 and R101 -/

-- 41_loads.md: 01 yyy zzz, 00 yyy 110, 00 pp 0001, 11 pp 0101, 11 pp 0001 and the single rows.
theorem test_decode_loads :
    decode [0b01000001] = .instr .ld_B_C [] ∧ decode [0b01110111] = .instr .ld_atHL_A [] ∧
    decode [0b00110110, 0x7F] = .instr (.ld_atHL_d8 0x7F) [] ∧ decode [0b00111010] = .instr .ld_A_atHLd [] ∧
    decode [0b00110001, 0xFE, 0xFF] = .instr (.ld_SP_d16 0xFFFE) [] ∧ decode [0b11110101] = .instr .push_AF [] ∧
    decode [0b11010001] = .instr .pop_DE [] ∧ decode [0b00001000, 0x34, 0x12] = .instr (.ld_atA16_SP 0x1234) [] ∧
    decode [0b11111000, 0x80] = .instr (.ld_HL_SPe8 0x80) [] := by decide

-- 42_alu8.md: 10 yyy zzz, 11 yyy 110, 00 yyy 100, 00 yyy 101.
theorem test_decode_alu8 :
    decode [0b10011110] = .instr .sbc_A_atHL [] ∧ decode [0b10111000] = .instr .cp_B [] ∧
    decode [0b11101110, 0x0F] = .instr (.xor_d8 0x0F) [] ∧ decode [0b00110100] = .instr .inc_atHL [] ∧
    decode [0b00111101] = .instr .dec_A [] ∧ decode [0b00100111] = .instr .daa [] := by decide

-- 43_alu16.md: 00 pp 0011, 00 pp 1011, 00 pp 1001, 0xE8.
theorem test_decode_alu16 :
    decode [0b00110011] = .instr .inc_SP [] ∧ decode [0b00001011] = .instr .dec_BC [] ∧
    decode [0b00101001] = .instr .add_HL_HL [] ∧ decode [0b11101000, 0xFF] = .instr (.add_SP_e8 0xFF) [] := by decide

-- 44_rotate_shift_bit.md: 000 yy 111 and, after 0xCB, xx yyy zzz.
theorem test_decode_rotates :
    decode [0b00010111] = .instr .rla [] ∧ decode [0xCB, 0b00101110] = .instr .sra_atHL [] ∧
    decode [0xCB, 0b01111100] = .instr .bit_7_H [] ∧ decode [0xCB, 0b10011101] = .instr .res_3_L [] ∧
    decode [0xCB, 0b11000000] = .instr .set_0_B [] := by decide

-- 45_control_transfer.md: 11 0cc 010, 001 cc 000, 11 0cc 100, 11 0cc 000, 11 yyy 111 and the single rows.
theorem test_decode_control :
    decode [0b11011010, 0x00, 0x02] = .instr (.jp_C_a16 0x0200) [] ∧ decode [0b00110000, 0x05] = .instr (.jr_NC_e8 5) [] ∧
    decode [0b11001100, 0x34, 0x12] = .instr (.call_Z_a16 0x1234) [] ∧ decode [0b11000000] = .instr .ret_NZ [] ∧
    decode [0b11101111] = .instr .rst_28H [] ∧ decode [0b11101001] = .instr .jp_HL [] ∧
    decode [0b11011001] = .instr .reti [] := by decide

-- 46_system.md: STOP reads no second byte (R267); an illegal opcode is one byte (R271).
theorem test_decode_system :
    decode [0b00010000, 0x00] = .instr .stop [0x00] ∧ decode [0b01110110] = .instr .halt [] ∧
    decode [0b11110011] = .instr .di [] ∧ decode [0b11111011] = .instr .ei [] ∧
    decode [0b11010011, 0x01] = .instr .illegal_D3 [0x01] ∧ decode [0xCB] = .instr .prefix_CB [] := by decide

theorem test_table_words :
    decodeTableWord 8 0x3E = some (.ld_A_d8 0) ∧ decodeTableWord 16 0x37CB = some .swap_A ∧
    decodeTableWord 24 0x1234CD = some (.call_a16 0x1234) ∧ decodeTableWord 8 0xCB = some .prefix_CB := by decide

/-! ## 8-bit arithmetic and logic -/

-- A1, A2, A3, A5.
theorem test_add :
    aluAfter .add_A_B 0x3A 0xC6 0 = (0x00, 0xB0) ∧ aluAfter .add_A_B 0x0F 0x01 0 = (0x10, 0x20) ∧
    aluAfter .add_A_B 0x80 0x80 0 = (0x00, 0x90) ∧ aluAfter .add_A_A 0 0 0 = (0x00, 0x80) := by decide

-- A6, A7, A8, A9.
theorem test_adc :
    aluAfter .adc_A_B 0xE1 0x0F 0x10 = (0xF1, 0x00) ∧ aluAfter (.adc_A_d8 0xFF) 0 0 0x10 = (0x00, 0x80) ∧
    aluAfter .adc_A_B 0x0F 0x00 0x10 = (0x10, 0x20) ∧ aluAfter .adc_A_B 0xFE 0x01 0x10 = (0x00, 0xB0) := by decide

-- A11 to A14.
theorem test_sub :
    aluAfter .sub_B 0x3E 0x3E 0 = (0x00, 0xC0) ∧ aluAfter .sub_B 0x3E 0x0F 0 = (0x2F, 0x60) ∧
    aluAfter .sub_B 0x3E 0x40 0 = (0xFE, 0x50) ∧ aluAfter .sub_B 0x00 0x01 0 = (0xFF, 0x70) := by decide

-- A15, A16, A17.
theorem test_sbc :
    aluAfter .sbc_A_B 0x3B 0x4F 0x10 = (0xEB, 0x50) ∧ aluAfter .sbc_A_B 0x00 0xFF 0x10 = (0x00, 0xC0) ∧
    aluAfter .sbc_A_B 0x10 0x0F 0x10 = (0x00, 0xC0) := by decide

-- A18 to A22.
theorem test_bitwise :
    aluAfter .and_B 0x5A 0x3F 0 = (0x1A, 0x20) ∧ aluAfter .and_B 0x5A 0xA5 0 = (0x00, 0xA0) ∧
    aluAfter .or_B 0x5A 0xA5 0 = (0xFF, 0x00) ∧ aluAfter .xor_B 0x5A 0x3F 0 = (0x65, 0x00) ∧
    aluAfter .xor_A 0x77 0 0xF0 = (0x00, 0x80) := by decide

-- A23, A24, A25.
theorem test_cp :
    aluAfter .cp_B 0x3C 0x2F 0 = (0x3C, 0x60) ∧ aluAfter .cp_B 0x3C 0x3C 0 = (0x3C, 0xC0) ∧
    aluAfter .cp_B 0x3C 0x40 0 = (0x3C, 0x50) := by decide

-- A26, A27, A28; A29, A30, A31.
theorem test_inc_dec :
    aluAfter .inc_A 0xFF 0 0x00 = (0x00, 0xA0) ∧ aluAfter .inc_A 0x0F 0 0x10 = (0x10, 0x30) ∧
    aluAfter .inc_A 0x7F 0 0x00 = (0x80, 0x20) ∧ aluAfter .dec_A 0x01 0 0x00 = (0x00, 0xC0) ∧
    aluAfter .dec_A 0x00 0 0x10 = (0xFF, 0x70) ∧ aluAfter .dec_A 0x10 0 0x00 = (0x0F, 0x60) := by decide

-- A32 to A35, and the second halves of A36 and A37.
theorem test_daa :
    aluAfter .daa 0x7D 0 0x00 = (0x83, 0x00) ∧ aluAfter .daa 0x9A 0 0x00 = (0x00, 0x90) ∧
    aluAfter .daa 0x00 0 0x10 = (0x60, 0x10) ∧ aluAfter .daa 0x0F 0 0x60 = (0x09, 0x40) ∧
    aluAfter .daa 0x3C 0 0x00 = (0x42, 0x00) ∧ aluAfter .daa 0x2D 0 0x60 = (0x27, 0x40) := by decide

-- A38, A39, A40.
theorem test_cpl_scf_ccf :
    aluAfter .cpl 0x35 0 0x00 = (0xCA, 0x60) ∧ aluAfter .scf 0x35 0 0xE0 = (0x35, 0x90) ∧
    aluAfter .ccf 0x35 0 0x90 = (0x35, 0x80) := by decide

-- A41, A42.
theorem test_memory_operands :
    (after .inc_atHL (good.place 0xC000 0xFF)).ram.read 0xC000 = 0x00 ∧
    (after .inc_atHL (good.place 0xC000 0xFF)).f.toByte = 0xA0 ∧
    exitOf (exec .add_A_atHL (goodHL 0xFE00)) = some (.outOfBounds 0xFE00 .read, 0xC400) := by decide

-- The source's S1, S2 and S3 on their corner values.
theorem test_source_properties :
    (after .inc_B (after .dec_B (ab 0 0 0))).b = 0 ∧ (after .inc_B (ab 0 255 0)).f.z = true ∧
    (after .dec_B (ab 0 1 0)).f.z = true ∧ (after .sub_B (after .add_A_B (ab 200 100 0))).a = 200 := by decide

/-! ## 16-bit arithmetic -/

-- W1 to W4.
theorem test_add_hl :
    (after .add_HL_BC { goodHL 0x8A23 with b := 0x06, c := 0x05, f := Flags.ofByte 0x80 }).hl = 0x9028 ∧
    (after .add_HL_BC { goodHL 0x8A23 with b := 0x06, c := 0x05, f := Flags.ofByte 0x80 }).f.toByte = 0xA0 ∧
    (after .add_HL_HL (goodHL 0x8A23)).hl = 0x1446 ∧ (after .add_HL_HL (goodHL 0x8A23)).f.toByte = 0x30 ∧
    (after .add_HL_DE { goodHL 0x0FFF with d := 0, e := 1 }).f.toByte = 0x20 ∧
    (after .add_HL_SP { goodHL 0xFFFF with sp := 1 }).hl = 0 ∧
    (after .add_HL_SP { goodHL 0xFFFF with sp := 1 }).f.toByte = 0x30 := by decide

-- W5, W6.
theorem test_inc_dec_16 :
    (after .inc_BC { good with b := 0xFF, c := 0xFF }).bc = 0 ∧
    (after .inc_BC { good with b := 0xFF, c := 0xFF }).f.toByte = 0 ∧
    (after .dec_SP { good with sp := 0 }).sp = 0xFFFF := by decide

-- W7 to W11, under LowByte.
theorem test_sp_offset :
    (after (.add_SP_e8 0x02) { good with sp := 0xFFF8 }).sp = 0xFFFA ∧
    (after (.add_SP_e8 0x02) { good with sp := 0xFFF8 }).f.toByte = 0x00 ∧
    (after (.add_SP_e8 0xFF) { good with sp := 0x0005 }).sp = 0x0004 ∧
    (after (.add_SP_e8 0xFF) { good with sp := 0x0005 }).f.toByte = 0x30 ∧
    (after (.ld_HL_SPe8 0x01) { good with sp := 0xFFFF }).hl = 0 ∧
    (after (.ld_HL_SPe8 0x01) { good with sp := 0xFFFF }).f.toByte = 0x30 ∧
    (after (.ld_HL_SPe8 0x80) { good with sp := 0x1000 }).hl = 0x0F80 ∧
    (after (.ld_HL_SPe8 0x80) { good with sp := 0x1000 }).f.toByte = 0x00 := by decide

-- W8, W9, W10 under Wide12_16.
theorem test_sp_offset_wide :
    let wide := { defaultParams with spOffsetFlags := .wide12_16 }
    (after (.add_SP_e8 0xFF) { good with sp := 0x0005, params := wide }).f.toByte = 0x00 ∧
    (after (.add_SP_e8 0x01) { good with sp := 0x00FF, params := wide }).f.toByte = 0x00 ∧
    (after (.ld_HL_SPe8 0x01) { good with sp := 0xFFFF, params := wide }).f.toByte = 0x30 := by decide

/-! ## Rotates, shifts, bits: the table of 95_test_vectors.md 2.3 -/

theorem test_shift_85 :
    bAfter .rlc_B 0x85 0 = (0x0B, 0x10) ∧ bAfter .rrc_B 0x85 0 = (0xC2, 0x10) ∧ bAfter .rl_B 0x85 0 = (0x0A, 0x10) ∧
    bAfter .rr_B 0x85 0 = (0x42, 0x10) ∧ bAfter .sla_B 0x85 0 = (0x0A, 0x10) ∧ bAfter .sra_B 0x85 0 = (0xC2, 0x10) ∧
    bAfter .swap_B 0x85 0 = (0x58, 0x00) ∧ bAfter .srl_B 0x85 0 = (0x42, 0x10) := by decide

theorem test_shift_01_carry :
    bAfter .rlc_B 0x01 0x10 = (0x02, 0x00) ∧ bAfter .rrc_B 0x01 0x10 = (0x80, 0x10) ∧
    bAfter .rl_B 0x01 0x10 = (0x03, 0x00) ∧ bAfter .rr_B 0x01 0x10 = (0x80, 0x10) ∧
    bAfter .sla_B 0x01 0x10 = (0x02, 0x00) ∧ bAfter .sra_B 0x01 0x10 = (0x00, 0x90) ∧
    bAfter .swap_B 0x01 0x10 = (0x10, 0x00) ∧ bAfter .srl_B 0x01 0x10 = (0x00, 0x90) := by decide

-- AR1 to AR4.
theorem test_accumulator_rotates :
    let zero := { defaultParams with accRotZ := .zero }
    aluAfter .rlca 0x85 0 0 = (0x0B, 0x10) ∧ aluAfter .rlca 0 0 0 = (0x00, 0x80) ∧
    (after .rlca { ab 0 0 0 with params := zero }).f.toByte = 0x00 ∧ aluAfter .rla 0x80 0 0 = (0x00, 0x90) ∧
    (after .rla { ab 0x80 0 0 with params := zero }).f.toByte = 0x10 ∧ aluAfter .rra 0x01 0 0 = (0x00, 0x90) := by decide

-- B1 to B5.
theorem test_bits :
    (after .bit_7_H { good with h := 0x80, f := Flags.ofByte 0x30 }).f.toByte = 0x30 ∧
    (after .bit_4_L { good with l := 0xEF }).f.toByte = 0x80 ∧ (after .bit_0_A (ab 0xFE 0 0x70)).f.toByte = 0xF0 ∧
    aluAfter .res_7_A 0x80 0 0x50 = (0x00, 0x50) ∧ (after .set_3_atHL good).ram.read 0xC000 = 0x08 := by decide

-- B6, whatever the draw is: the byte written back has bit 0 set.
theorem test_set_locks_overlay :
    ∀ v : Byte, (afterWrite { good with bootLocked := false } 0xFF50 (setBit 0 v)).bootLocked = true := by decide

/-! ## Loads and the stack -/

-- L1, as a whole step: A, pc and the ticks.
theorem test_step_load :
    let t := runs State.reset (step (State.reset.withFetchWord 16 0x053E))
    t.a = 5 ∧ t.pc = 2 ∧ t.clock = 8 ∧ t.bootLocked = false := by decide

-- L3, L4.
theorem test_store_steps :
    (after .ld_atHLi_A { goodHL 0xFFFF with a := 0x77 }).ier = 0x77 ∧
    (after .ld_atHLi_A { goodHL 0xFFFF with a := 0x77 }).hl = 0 ∧
    (after .ld_atHLd_A { good with a := 1 }).ram.read 0xC000 = 1 ∧ (after .ld_atHLd_A good).hl = 0xBFFF := by decide

-- L5, L6.
theorem test_load_direct :
    (after (.ldh_A_atA8 0x44) { good with line := 12 }).a = 0x0C ∧
    (after (.ld_A_atA16 0xE000) (good.place 0xC000 0x5A)).a = 0x5A := by decide

-- L7: the first byte is written, the second raises the exit.
theorem test_partial_store :
    (after (.ld_atA16_SP 0xFDFF) { good with sp := 0x1234 }).ram.read 0xDDFF = 0x34 ∧
    exitOf (exec (.ld_atA16_SP 0xFDFF) { good with sp := 0x1234 }) = some (.outOfBounds 0xFE00 .write, 0xC400) := by decide

-- L8, first half; L10.
theorem test_push :
    let s := { good with b := 0x12, c := 0x34 }
    (after .push_BC { s with sp := 0xD000 }).ram = [(0xCFFE, 0x34), (0xCFFF, 0x12)] ∧
    (after .push_BC { s with sp := 0xD000 }).sp = 0xCFFE ∧
    (after .push_BC { s with sp := 1 }).ier = 0x34 ∧ (after .push_BC { s with sp := 1 }).ram = [] := by decide

-- L9.
theorem test_pop_af :
    let t := after .pop_AF ({ good with sp := 0xC000 }.placeAll 0xC000 [0xFF, 0x12])
    t.a = 0x12 ∧ t.f.toByte = 0xF0 ∧ t.sp = 0xC002 := by decide

-- L11; R132 for a source that is the destination's neighbour.
theorem test_register_loads :
    (after .ld_SP_HL (goodHL 0xABCD)).sp = 0xABCD ∧ (after .ld_SP_HL (goodHL 0xABCD)).clock = 8 ∧
    (after .ld_H_L (goodHL 0xABCD)).hl = 0xCDCD ∧ (after .ld_A_atHLi (good.place 0xC000 9)).a = 9 := by decide

/-! ## Control transfer -/

-- J1, J2, J14.
theorem test_jumps :
    (after (.jp_a16 0x0150) good).pc = 0x0150 ∧ (after (.jp_a16 0x0150) good).clock = 16 ∧
    (after (.jp_NZ_a16 0x0200) { good with pc := 0x0100, f := Flags.ofByte 0x80 }).pc = 0x0103 ∧
    (after (.jp_NZ_a16 0x0200) { good with pc := 0x0100, f := Flags.ofByte 0x80 }).clock = 12 ∧
    (after .jp_HL good).pc = 0xC000 ∧ (after .jp_HL good).clock = 4 := by decide

-- J3 to J6.
theorem test_relative_jumps :
    (after (.jr_e8 0xFE) { good with pc := 0x0200 }).pc = 0x0200 ∧ (after (.jr_NZ_e8 0xFB) { good with pc := 9 }).pc = 6 ∧
    (after (.jr_NZ_e8 0xFB) { good with pc := 9, f := Flags.ofByte 0x80 }).pc = 0x0B ∧
    (after (.jr_e8 0x7F) { good with pc := 0xFFF0 }).pc = 0x0071 := by decide

-- J7, J8, J12.
theorem test_calls :
    let s := { good with pc := 0x0150, sp := 0xD000 }
    (after (.call_a16 0x1234) s).pc = 0x1234 ∧ (after (.call_a16 0x1234) s).ram = [(0xCFFE, 0x53), (0xCFFF, 0x01)] ∧
    (after (.call_a16 0x1234) s).clock = 24 ∧ (after (.call_Z_a16 0x1234) s).pc = 0x0153 ∧
    (after (.call_Z_a16 0x1234) s).sp = 0xD000 ∧ (after .rst_38H { s with pc := 0x0200 }).pc = 0x0038 ∧
    (after .rst_38H { s with pc := 0x0200 }).ram = [(0xCFFE, 0x01), (0xCFFF, 0x02)] := by decide

-- J9, J10, J11, J13.
theorem test_returns :
    let s := { good with sp := 0xCFFE }.placeAll 0xCFFE [0x53, 0x01]
    (after .ret s).pc = 0x0153 ∧ (after .ret s).sp = 0xD000 ∧ (after .ret s).clock = 16 ∧
    (after .ret_C s).pc = 0xC401 ∧ (after .ret_C s).clock = 8 ∧
    (after .ret_C { s with f := Flags.ofByte 0x10 }).clock = 20 ∧ (after .reti s).ime = true := by decide

/-! ## System and exits -/

-- X1, X2.
theorem test_halt_stop :
    exitOf (exec .halt { good with pc := 2 }) = some (.halt, 2) ∧
    exitOf (exec .halt { good with pc := 2, params := { defaultParams with haltPcAdvance := true } }) = some (.halt, 3) ∧
    (after .halt good).clock = 0 ∧ exitOf (exec .stop good) = some (.stop, 0xC400) := by decide

-- X4, X6, and X3's STOP at the last ROM byte.
theorem test_fetch_exits :
    exitOf (step (fetching [0xD3])) = some (.unimplemented 0xD3, 0xC400) ∧
    exitOf (step { good with pc := 0xFE00 }) = some (.outOfBounds 0xFE00 .read, 0xFE00) ∧
    exitOf (step { good with pc := 7, rom := [(7, 0x10)], romLen := 8 }) = some (.stop, 7) := by decide

-- X5, X10.
theorem test_rom_end :
    exitOf (step { good with pc := 7, rom := [(7, 0xCB)], romLen := 8 }) = some (.outOfBounds 8 .read, 7) ∧
    exitOf (step { good with pc := 8, romLen := 8 }) = some (.outOfBounds 8 .read, 8) := by decide

-- X7, X8.
theorem test_unknown_io :
    exitOf (exec (.ldh_atA8_A 0x00) good) = some (.outOfBounds 0xFF00 .write, 0xC400) ∧
    exitOf (exec (.ldh_A_atA8 0x04) good) = some (.outOfBounds 0xFF04 .read, 0xC400) := by decide

-- X11.
theorem test_di_ei :
    (after .di { good with ime := true }).ime = false ∧ (after .ei good).ime = true ∧ (after .ei good).clock = 4 := by
  decide

-- R124: an opcode in UNIMPL_EXTRA.
theorem test_unimpl_extra :
    exitOf (step { fetching [0x00] with params := { defaultParams with unimplExtra := [0x00] } }) =
      some (.unimplemented 0x00, 0xC400) := by decide

/-! ## The memory decoder -/

-- MEM-1, MEM-2.
theorem test_boot_overlay :
    let s := { State.reset with boot := [(0x50, 0xAA)], rom := [(0x50, 0x55)] }
    busRead s 0x50 = .byte 0xAA ∧ busRead (afterWrite s 0xFF50 0x01) 0x50 = .byte 0x55 ∧
    busRead (afterWrite (afterWrite s 0xFF50 0x01) 0xFF50 0x01) 0x50 = .byte 0x55 ∧
    busRead (afterWrite (afterWrite s 0xFF50 0x00) 0xFF50 0xFE) 0x50 = .byte 0xAA := by decide

-- MEM-3, MEM-4, MEM-8, MEM-12.
theorem test_read_back :
    busRead (afterWrite good 0xC123 0x5A) 0xE123 = .byte 0x5A ∧ busRead (afterWrite good 0xFDFF 0x77) 0xDDFF = .byte 0x77 ∧
    busRead (afterWrite good 0xFF42 0x10) 0xFF42 = .byte 0x10 ∧
    busRead (afterWrite good 0xFF0F 0x1F) 0xFF0F = .byte 0x1F := by decide

-- MEM-5, MEM-6, MEM-7, MEM-9.
theorem test_no_effect_and_holes :
    busWrite good 0x7FFF 1 = some good ∧ busWrite romFault 0x7FFF 1 = none ∧ busRead good 0xFEA0 = .outOfBounds ∧
    busWrite good 0xFEA0 0 = none ∧ busWrite good 0xFF44 0x3C = some good ∧ busRead good 0xFF40 = .draw := by decide

-- MEM-10, MEM-11.
theorem test_words :
    value16 (good.placeAll 0xC000 [0x34, 0x12]) 0xC000 = 0x1234 ∧
    value16 { good with ier := 0x56, rom := [(0, 0x78)] } 0xFFFF = 0x7856 := by decide

/-! ## The PPU and the hand-off -/

-- PPU-1, PPU-2, PPU-8.
theorem test_ppu_step :
    (ppuStep 79 State.reset).mode = .oamScan ∧ (ppuStep 79 State.reset).clock = 79 ∧
    (ppuStep 80 State.reset).mode = .pixelTransfer ∧ (ppuStep 80 State.reset).clock = 0 ∧
    (ppuStep 24 { State.reset with mode := .hBlank, clock := 200 }).line = 1 ∧
    (ppuStep 24 { State.reset with mode := .hBlank, clock := 200 }).clock = 20 := by decide

-- PPU-3 under `Reset`; PPU-5's last transition.
theorem test_ppu_lines :
    let s := { State.reset with params := { defaultParams with ppuOvershoot := .reset } }
    (ppuStep 456 s).mode = .pixelTransfer ∧ (ppuStep 456 s).line = 0 ∧ (ppuStep 456 s).clock = 0 ∧
    (ppuStep 204 { State.reset with mode := .hBlank, line := 142 }).mode = .vBlank ∧
    (ppuStep 456 { State.reset with mode := .vBlank, line := 153 }).line = 0 := by decide

-- PPU-9, PPU-10, PPU-12.
theorem test_pixels :
    let s := { State.reset with ram := [(0x8010, 0x80), (0x9800, 0x01)] }
    pixelGrey .setIsBlack s.ram 0 0 0 0 = 0 ∧ pixelGrey .setIsBlack s.ram 0 0 0 1 = 0xFF ∧
    pixelGrey .setIsBlack s.ram 0xFF 0 0 1 = 0 ∧ mapY 0xFC 10 = 6 ∧ mapX 0xFF 0 = 0xFF := by decide

-- H1, H6; H2, H3, H4.
theorem test_handoff :
    let s := { attached [] with mode := .hBlank, line := 142 }
    (ppuStep 204 s).phase = .awaitAck ∧ (ppuStep 204 { s with params := defaultParams }).phase = .running ∧
    (handoffStep { s with phase := .awaitAck, mode := .vBlank }).slot = some [] ∧
    (handoffStep { s with phase := .awaitAck, mode := .vBlank }).consumed = false ∧
    (consumerTurn { s with slot := some [] }).held = some [] ∧
    (consumerTurn { s with held := some [], consumed := false }).consumed = true := by decide

/-! ## Witnesses: states and operands that meet the hypotheses of each obligation, clause by clause -/

theorem test_witness_DecodeOfEncode : (Instr.ld_A_d8 0xFF).wellFormed = true ∧ Instr.set_7_A.wellFormed = true := by decide

theorem test_witness_EncodeOfDecode :
    decode [0xCB, 0x37, 0x01] = .instr .swap_A [0x01] ∧ decode [0xC3, 0x50, 0x01] = .instr (.jp_a16 0x0150) [] := by decide

theorem test_witness_StepRunsDecodedInstruction :
    let s := fetching [0x3E, 0x05]
    s.status = .running ∧ s.phase = .running ∧ nextAgent s = .producer ∧
    readBytes 2 s.pc (takeTurn s) = .done [0x3E, 0x05] (takeTurn s) ∧ decode [0x3E, 0x05] = .instr (.ld_A_d8 5) [] ∧
    (Instr.ld_A_d8 5).wellFormed = true ∧ (0x3E : Byte) ∉ s.params.unimplExtra :=
  ⟨rfl, rfl, rfl, rfl, rfl, rfl, by decide⟩

theorem test_witness_FetchedBytesAreMemory :
    let s := { fetching [0x3E] with ier := 7, bootLocked := true }
    busRead s 0xC400 = .byte 0x3E ∧ busRead s (0xFFFF + BitVec.ofNat 16 0) = .byte 7 ∧
    busRead s (0xFFFF + BitVec.ofNat 16 1) = .byte 0 := by decide

theorem test_witness_FetchFaults :
    let hole := { good with pc := 0xFE00 }
    let extra := { fetching [0x00] with params := { defaultParams with unimplExtra := [0x00] } }
    let second := { good with pc := 0xFDFF }.place 0xFDFF 0x3E
    let third := { good with pc := 0xFDFE }.place 0xFDFE 0xC3
    (hole.status = .running ∧ hole.phase = .running ∧ nextAgent hole = .producer ∧ readable hole hole.pc = false) ∧
    (readable extra extra.pc = true ∧ valueAt extra extra.pc ∈ extra.params.unimplExtra) ∧
    (readable second second.pc = true ∧ fetchLen (valueAt second second.pc) = 2 ∧
      readable second (second.pc + 1) = false) ∧
    (readable third third.pc = true ∧ fetchLen (valueAt third third.pc) = 3 ∧ readable third (third.pc + 1) = true ∧
      readable third (third.pc + 2) = false) := by decide

theorem test_witness_NoProducerStepAfterExit :
    let s := { attached [.producer] with status := .exited .halt 2, slot := some [] }
    consumerEnabled { good with status := .exited .halt 2 } = false ∧
    consumerEnabled s = true ∧ nextAgent s = .producer ∧ nextAgent { s with turns := [.consumer] } = .consumer := by decide

theorem test_witness_BlockedProducerWaits :
    let s := { attached [.producer] with phase := .awaitAck, consumed := false, slot := some [] }
    s.status = .running ∧ nextAgent s = .producer ∧ s.phase = .awaitAck ∧ s.consumed = false ∧
    { s with phase := .awaitSlot }.slot.isSome = true := by decide

theorem test_witness_RetireAdvancesPcAndPpu :
    (retire 3 4 { good with pc := 0xFFFE, clock := 64 }).phase = .running ∧
    (retire 3 4 { good with pc := 0xFFFE, clock := 64 }).pc = 1 ∧ (retire 3 4 { good with clock := 64 }).clock = 0 := by
  decide

theorem test_witness_OneTransitionPerStep :
    let s := { good with clock := 60 }
    let dropping := { s with params := { defaultParams with ppuOvershoot := .reset } }
    s.phase = .running ∧ s.clock < thr s.mode ∧ s.clock + 19 < thr s.mode ∧ thr s.mode ≤ s.clock + 20 ∧ 80 ≤ 80 ∧
    (ppuStep 80 s).clock = 60 ∧ thr dropping.mode ≤ dropping.clock + 500 ∧ (ppuStep 500 dropping).clock = 0 := by decide

theorem test_witness_PpuTransitions :
    State.reset.mode = .oamScan ∧ { good with mode := .pixelTransfer }.mode = .pixelTransfer ∧
    (141 : Nat) + 1 ≠ defaultParams.vblankEntry.toNat ∧ (142 : Nat) + 1 = defaultParams.vblankEntry.toNat ∧
    (ppuTransition { good with mode := .hBlank, line := 142, clock := 204 }).mode = .vBlank ∧
    (ppuTransition { good with mode := .hBlank, line := 141, clock := 204 }).mode = .oamScan ∧
    (ppuTransition { good with mode := .vBlank, line := 152, clock := 456 }).line = 153 ∧
    (ppuTransition { good with mode := .vBlank, line := 153, clock := 456 }).line = 0 := by decide

theorem test_witness_FrameOf154Lines :
    State.reset.params.ppuOvershoot = .carry ∧ State.reset.params.consumerAttached = false ∧
    State.reset.phase = .running ∧ State.reset.mode = .oamScan ∧ State.reset.clock = 0 ∧ State.reset.line = 0 := by decide

theorem test_witness_RenderedPixel : (159 : Nat) < 160 ∧ (3 : Nat) < 4 := by decide

theorem test_witness_RenderWritesOneRow : (639 : Nat) < 1 * 640 ∧ (1 + 1) * 640 ≤ (1280 : Nat) := by decide

theorem test_witness_HandoffSteps :
    let s := { attached [.producer] with phase := .awaitAck, mode := .vBlank, line := 143 }
    s.status = .running ∧ nextAgent s = .producer ∧ s.phase = .awaitAck ∧ s.consumed = true ∧ s.slot = none ∧
    s.clock < thr s.mode ∧ { s with slot := some [] }.slot.isSome = true ∧
    { s with phase := .awaitSlot }.phase = .awaitSlot := by decide

theorem test_witness_ConsumerSteps :
    let s := attached [.consumer]
    s.params.consumerAttached = true ∧ s.held = none ∧ s.slot = none ∧ { s with slot := some [] }.slot.isSome = true ∧
    { s with held := some [] }.held.isSome = true ∧ nextAgent s = .consumer ∧ s.status = .running := by decide

theorem test_witness_NoInstructionTouchesRun : ∃ t, exec .nop State.reset = .next t := ⟨_, rfl⟩

theorem test_witness_ConsumerCommutesWithInstructions :
    ∃ t, exec .nop { attached [] with slot := some [] } = .next t := ⟨_, rfl⟩

theorem test_witness_StepKeepsInvariant : MachineInv good ∧ ∃ t, step good = .next t :=
  ⟨by unfold MachineInv MemInv PpuInv HandoffInv; decide, _, rfl⟩

theorem test_witness_StepKeepsImagesAndLock :
    (∃ t, step good = .next t) ∧
    ∃ t, step { attached [.consumer] with status := .exited .halt 2, slot := some [] } = .next t := ⟨⟨_, rfl⟩, _, rfl⟩

/-- A launch with images of the lengths given. -/
def launched (bootLen romLen : Nat) : LaunchInput :=
  { boot := List.replicate bootLen 0, rom := List.replicate romLen 0x76, params := defaultParams
    initRam := [(0xC000, 1), (0x1234, 2)], initFb := [], ifr := 1, ier := 2, turns := [] }

/-- A launch succeeds where both images are of the sizes the spec asks for. -/
theorem launch_isSome (b r : Nat) : (launch (launched b r)).isSome = (b == 256 && (1 ≤ r && r ≤ 32768)) := by
  unfold launch
  split <;> rename_i h <;> simpa [launched, bootImageOk, romImageOk] using h

theorem test_witness_LaunchState :
    (launch (launched 256 1)).isSome = true ∧ (launch (launched 256 32768)).isSome = true ∧
    ramKey 0x8000 = true ∧ ramKey 0xFFFE = true ∧ (launch (launched 255 1)).isSome = false ∧ (launch (launched 256 0)).isSome = false ∧
    (launch (launched 256 32769)).isSome = false := by
  simp only [launch_isSome]; decide

theorem test_witness_ReadMap :
    let s := State.reset
    let short := { good with romLen := 0x4000 }
    s.bootLocked = false ∧ busRead s 0x00FF = .byte 0 ∧ busRead s 0x0100 = .byte 0 ∧ busRead s 0x7FFF = .byte 0 ∧
    busRead short 0x3FFF = .byte 0 ∧ busRead short 0x4000 = .outOfBounds ∧ busRead s 0x8000 = .byte 0 ∧
    busRead s 0xDFFF = .byte 0 ∧ busRead s 0xE000 = busRead s 0xC000 ∧ busRead s 0xFDFF = busRead s 0xDDFF ∧
    busRead s 0xFE00 = .outOfBounds ∧ busRead s 0xFEFF = .outOfBounds ∧ busRead s 0xFF80 = .byte 0 ∧
    busRead s 0xFFFE = .byte 0 ∧ busRead { s with ier := 5 } 0xFFFF = .byte 5 := by decide

theorem test_witness_IoReadMap :
    let s := State.reset
    s.params.ioStubSet = defaultIoStubSet ∧ inStubSet s.params 0xFF00 = false ∧ inStubSet s.params 0xFF7F = false ∧
    inStubSet s.params 0xFF0F = false ∧ busRead s 0xFF0F = .byte 0 ∧ inStubSet s.params 0xFF10 = true ∧
    inStubSet s.params 0xFF26 = true ∧ inStubSet s.params 0xFF27 = false ∧ inStubSet s.params 0xFF3F = true ∧
    inStubSet s.params 0xFF45 = false ∧ inStubSet s.params 0xFF46 = false ∧ inStubSet s.params 0xFF49 = true ∧
    inStubSet s.params 0xFF4A = false := by decide

theorem test_witness_WriteMap :
    busWrite good 0x0000 1 = some good ∧ busWrite romFault 0x7FFF 1 = none ∧ (busWrite good 0x8000 1).isSome = true ∧
    (busWrite good 0xDFFF 1).isSome = true ∧ busWrite good 0xE000 1 = busWrite good 0xC000 1 ∧
    busWrite good 0xFDFF 1 = busWrite good 0xDDFF 1 ∧ busWrite good 0xFE00 1 = none ∧ busWrite good 0xFEFF 1 = none ∧
    (busWrite good 0xFF80 1).isSome = true ∧ (busWrite good 0xFFFE 1).isSome = true ∧
    busWrite good 0xFF0F 1 = some { good with ifr := 1 } ∧ busWrite good 0xFFFF 1 = some { good with ier := 1 } ∧
    good.params.ioStubSet = defaultIoStubSet := by decide

-- the I/O window's ranges under the default set, each at its ends
theorem test_witness_WriteMap_io :
    busWrite good 0xFF00 1 = none ∧ busWrite good 0xFF0E 1 = none ∧ busWrite good 0xFF27 1 = none ∧
    busWrite good 0xFF2F 1 = none ∧ busWrite good 0xFF45 1 = none ∧ busWrite good 0xFF46 1 = none ∧
    busWrite good 0xFF4A 1 = none ∧ busWrite good 0xFF4F 1 = none ∧ busWrite good 0xFF51 1 = none ∧
    busWrite good 0xFF7F 1 = none ∧ inStubSet good.params 0xFF51 = false :=
  ⟨rfl, rfl, rfl, rfl, rfl, rfl, rfl, rfl, rfl, rfl, rfl⟩

theorem test_witness_WriteMap_stubs :
    busWrite good 0xFF10 1 = some good ∧ busWrite good 0xFF26 1 = some good ∧ busWrite good 0xFF30 1 = some good ∧
    busWrite good 0xFF3F 1 = some good ∧ busWrite good 0xFF41 1 = some good ∧ busWrite good 0xFF49 1 = some good ∧
    busWrite State.reset 0xFF50 1 = some { State.reset with bootLocked := true } ∧
    busWrite State.reset 0xFF50 0xFE = some State.reset := ⟨rfl, rfl, rfl, rfl, rfl, rfl, rfl, rfl⟩

/-! ## Turns -/

-- 49_frame_handoff.md R320: the listed turns first, in their order; past them the free value of the count.
theorem test_turns :
    nextAgent (attached [.consumer, .producer]) = .consumer ∧
    (takeTurn (attached [.consumer, .producer])).turns = [.producer] ∧
    (takeTurn (attached [.consumer])).turnCount = 0 ∧ (takeTurn (attached [])).turnCount = 1 ∧
    takeTurn good = good := by decide

theorem test_turns_past_the_list : nextAgent (attached []) = Config.laterTurn 0 := rfl

theorem test_witness_ReadAfterWrite :
    good.ram.wf = true ∧ cellOf 0xE123 = cellOf 0xC123 ∧ cellOf 0xFDFF = cellOf 0xDDFF ∧
    (0x8000 : Nat) ≤ (0xC123 : Word).toNat ∧ (0xFDFF : Word).toNat < 0xFE00 ∧ 0xFF80 ≤ (0xFF80 : Word).toNat ∧
    good.params.ioStubSet = defaultIoStubSet := by decide

theorem test_witness_WriteFrame :
    ¬ (cellOf 0xC001 = cellOf 0xC000) ∧ (0xC000 : Word) ≠ 0xFF50 ∧ ¬ ((0x0100 : Word).toNat < 0x100) := by decide

theorem test_witness_BootLockWrite :
    State.reset.params.ioStubSet = defaultIoStubSet ∧ (1 : Byte).getLsbD 0 = true ∧ (0xFE : Byte).getLsbD 0 = false ∧
    good.bootLocked = true ∧ (0xFF : Word).toNat < 0x100 ∧ (0xFF : Word).toNat < State.reset.romLen := by decide

theorem test_witness_WordAccesses :
    readable good 0xC000 = true ∧ readable good 0xC001 = true ∧ readable good 0xFE00 = false ∧
    readable good 0xFDFF = true ∧ writable good 0xC000 = true ∧ writable good 0xC001 = true ∧
    writable good 0xFE00 = false ∧ writable good 0xFDFF = true := by decide

theorem test_witness_ReadsChangeNothing :
    (∃ v t, memRead good 0xC000 = .done v t ∧ busRead good 0xC000 = .byte v) ∧
    ∃ v t, memRead good 0xFF40 = .done v t ∧ busRead good 0xFF40 = .draw := ⟨⟨_, _, rfl, rfl⟩, _, _, rfl, rfl⟩

theorem test_witness_PopAfterPush :
    good.ram.wf = true ∧ (0x8000 : Nat) ≤ (good.sp - 2).toNat ∧ (good.sp - 1).toNat < 0xFE00 ∧
    0xFF80 ≤ ({ good with sp := 0x0000 }.sp - 2).toNat := by decide

/-- The hypotheses of `LoadRegisters`, `LoadImmediates`, `AddAndAdc`, `SubSbcAndCp`, `BitwiseOperations`, `IncAndDec8`,
`ExtendedShifts` and `BitResAndSet`. -/
theorem test_witness_operands :
    -- a register; the byte at HL, readable and writable; neither; readable alone
    srcReadable good (r8 0) = true ∧ dstWritable good (r8 7) = true ∧ srcReadable good (r8 6) = true ∧
    dstWritable good (r8 6) = true ∧ srcReadable (goodHL 0xFE00) (r8 6) = false ∧
    dstWritable (goodHL 0xFE00) (r8 6) = false ∧ srcReadable romFault (r8 6) = true ∧
    dstWritable romFault (r8 6) = false ∧ ¬ ((6 : Fin 8) = 6 ∧ (5 : Fin 8) = 6) ∧ ¬ ((5 : Fin 8) = 6 ∧ (6 : Fin 8) = 6) := by
  decide

/-- The hypotheses of `LoadAccumulator`, `StoreAccumulator` and `LoadWords`. -/
theorem test_witness_direct_addresses :
    -- each address readable and writable, and neither
    readable good good.bc = true ∧ readable good good.de = true ∧ readable good good.hl = true ∧
    readable good (BitVec.ofNat 16 (0xFF00 + (0x80 : Byte).toNat)) = true ∧
    readable good (BitVec.ofNat 16 (0xFF00 + (0x00 : Byte).toNat)) = false ∧
    readable { good with b := 0xFE } { good with b := 0xFE }.bc = false ∧
    readable { good with d := 0xFE } { good with d := 0xFE }.de = false ∧ writable good good.bc = true ∧
    writable good (BitVec.ofNat 16 (0xFF00 + (0xFF : Byte).toNat)) = true ∧ writable16 good 0xC000 = true ∧
    writable good 0xFE00 = false ∧ writable good 0xFDFF = true ∧ writable good (0xFDFF + 1) = false := by decide

/-- The hypotheses on the stack of `PushAndPop`, `CallsAndRestarts` and `Returns`. -/
theorem test_witness_stack :
    -- both stack bytes, the first missing, the second missing
    writable16 good (good.sp - 2) = true ∧ readable16 good good.sp = true ∧
    writable good ({ good with sp := 0xFE02 }.sp - 2) = false ∧ writable good ({ good with sp := 0xFE01 }.sp - 2) = true ∧
    writable good ({ good with sp := 0xFE01 }.sp - 1) = false ∧ readable good 0xFE00 = false ∧
    readable good 0xFDFF = true ∧ readable good (0xFDFF + 1) = false := by decide

/-- The conditions of `Jumps`, `CallsAndRestarts`, `Returns` and `FrameOfStackForms`: each one met and not met. -/
theorem test_witness_conditions :
    ∀ i : Fin 4, (condHolds i ⟨false, false, false, false⟩ ∨ condHolds i ⟨true, false, false, true⟩) ∧
      (¬ condHolds i ⟨false, false, false, false⟩ ∨ ¬ condHolds i ⟨true, false, false, true⟩) := by decide

theorem test_witness_PrefixRunsExtended :
    readable good (good.pc + 1) = true ∧ (valueAt good (good.pc + 1)).toNat % 8 ≠ 6 ∧
    (valueAt (good.place 0xC401 0x36) 0xC401).toNat % 8 = 6 ∧ readable good good.hl = true ∧
    writable good good.hl = true ∧ readable { good with pc := 0xFDFF } ({ good with pc := 0xFDFF }.pc + 1) = false := by
  decide

/-- An instruction after which the run goes on meets the hypothesis of its frame. -/
theorem runsTo_of_goesOn {i : Instr} {s : State} (h : goesOn (exec i s) = true) : ∃ t, RunsTo (exec i s) t := by
  unfold goesOn at h
  split at h
  · rename_i t he; exact ⟨t, he, of_decide_eq_true h⟩
  · cases h
  · cases h

theorem test_witness_FrameOfByteForms :
    ∀ i ∈ [instrLd (.reg .h) .atHL, instrLdImm (.reg .l) 0, .ld_A_atBC, .ld_A_atDE, .ld_A_atHLi, .ld_A_atHLd,
        .ld_A_atA16 0xFFFF, .ldh_A_atA8 0x40, .ld_A_atC, instrAlu .adc .atHL, instrAluImm .cp 0, instrInc8 (.reg .h),
        instrDec8 (.reg .l), .daa, .cpl, .scf, .ccf, .rlca, .rrca, .rla, .rra, instrShift .sra (.reg .h),
        instrBit 7 .atHL, instrRes 0 (.reg .l), instrSet 7 (.reg .a), .nop],
      ∃ t, RunsTo (exec i { good with c := 0x80 }) t := by
  intro i hi
  have h : ∀ i ∈ [instrLd (.reg .h) .atHL, instrLdImm (.reg .l) 0, .ld_A_atBC, .ld_A_atDE, .ld_A_atHLi, .ld_A_atHLd,
      .ld_A_atA16 0xFFFF, .ldh_A_atA8 0x40, .ld_A_atC, instrAlu .adc .atHL, instrAluImm .cp 0, instrInc8 (.reg .h),
      instrDec8 (.reg .l), .daa, .cpl, .scf, .ccf, .rlca, .rrca, .rla, .rra, instrShift .sra (.reg .h),
      instrBit 7 .atHL, instrRes 0 (.reg .l), instrSet 7 (.reg .a), .nop],
    goesOn (exec i { good with c := 0x80 }) = true := by decide
  exact runsTo_of_goesOn (h i hi)

theorem test_witness_FrameOfWordForms :
    ∀ i ∈ [instrLdWord .sp 0, instrInc16 .bc, instrDec16 .hl, instrAddHL .sp, .add_SP_e8 0x80, .ld_HL_SPe8 0x7F,
        .ld_SP_HL, .di, .ei, .jp_a16 0, instrJpCc .nz 0, instrJpCc .z 0, .jp_HL, .jr_e8 0xFE, instrJrCc .nc 0,
        instrJrCc .c 0],
      ∃ t, RunsTo (exec i good) t := by
  intro i hi
  have h : ∀ i ∈ [instrLdWord .sp 0, instrInc16 .bc, instrDec16 .hl, instrAddHL .sp, .add_SP_e8 0x80, .ld_HL_SPe8 0x7F,
      .ld_SP_HL, .di, .ei, .jp_a16 0, instrJpCc .nz 0, instrJpCc .z 0, .jp_HL, .jr_e8 0xFE, instrJrCc .nc 0,
      instrJrCc .c 0], goesOn (exec i good) = true := by decide
  exact runsTo_of_goesOn (h i hi)

theorem test_witness_FrameOfStores :
    ∀ i ∈ [instrLd .atHL (.reg .h), instrLdImm .atHL 0, .ld_atBC_A, .ld_atDE_A, .ld_atHLi_A, .ld_atHLd_A,
        .ld_atA16_A 0xFFFF, .ldh_atA8_A 0x50, .ld_atC_A, .ld_atA16_SP 0xFFFE, instrInc8 .atHL, instrDec8 .atHL,
        instrShift .swap .atHL, instrRes 0 .atHL, instrSet 7 .atHL],
      ∃ t, RunsTo (exec i { good with c := 0x80 }) t := by
  intro i hi
  have h : ∀ i ∈ [instrLd .atHL (.reg .h), instrLdImm .atHL 0, .ld_atBC_A, .ld_atDE_A, .ld_atHLi_A, .ld_atHLd_A,
      .ld_atA16_A 0xFFFF, .ldh_atA8_A 0x50, .ld_atC_A, .ld_atA16_SP 0xFFFE, instrInc8 .atHL, instrDec8 .atHL,
      instrShift .swap .atHL, instrRes 0 .atHL, instrSet 7 .atHL], goesOn (exec i { good with c := 0x80 }) = true := by
    decide
  exact runsTo_of_goesOn (h i hi)

theorem test_witness_FrameOfStackForms :
    ∀ i ∈ [instrPush .af, .call_a16 0, instrCallCc .nz 0, instrCallCc .z 0, instrRst 7, instrPop .af, .ret, .reti,
        instrRetCc .nc, instrRetCc .c],
      ∃ t, RunsTo (exec i good) t := by
  intro i hi
  have h : ∀ i ∈ [instrPush .af, .call_a16 0, instrCallCc .nz 0, instrCallCc .z 0, instrRst 7, instrPop .af, .ret, .reti,
      instrRetCc .nc, instrRetCc .c], goesOn (exec i good) = true := by decide
  exact runsTo_of_goesOn (h i hi)

end Sys2Proof.Tests
end

/-! PROOFS. The machine's invariant over a step (O19), and what no instruction touches (O17). -/

namespace Sys2Proof.Machine

/-! ## What an instruction's two ends leave of the run -/

/-- Neither end of an instruction moves the images, the parameters or the hand-off's flag and frames, or opens the lock:
the body keeps them, and the tick report moves the PPU and pc alone. -/
theorem Ends.keepsRun {s t : State} {x : Host.Outcome State Fault Refusal} (h : Ends s x) (ht : x = .next t) :
    KeepsRun s t ∧ (s.bootLocked = true → t.bootLocked = true) := by
  obtain ⟨u, hu, ⟨len, cyc, hx⟩ | ⟨r, -, hx⟩⟩ := h <;> obtain rfl := Host.Outcome.next.inj (hx.symm.trans ht)
  · obtain ⟨c, m, l, b, p, hr⟩ := retire_moves len cyc u
    rw [hr]
    exact ⟨⟨hu.boot, hu.rom, hu.romLen, hu.params, hu.consumed, hu.slot, hu.held, hu.turns, hu.turnCount⟩,
      hu.bootLocked⟩
  · exact ⟨⟨hu.boot, hu.rom, hu.romLen, hu.params, hu.consumed, hu.slot, hu.held, hu.turns, hu.turnCount⟩,
      hu.bootLocked⟩

/-- At an instruction's end the run stands as before, or has exited for a reason other than `Clean`. -/
theorem Ends.status {s t : State} {x : Host.Outcome State Fault Refusal} (h : Ends s x) (ht : x = .next t) :
    t.status = s.status ∨ ∃ r pc, r ≠ .clean ∧ t.status = .exited r pc := by
  obtain ⟨u, hu, ⟨len, cyc, hx⟩ | ⟨r, hr, hx⟩⟩ := h <;> obtain rfl := Host.Outcome.next.inj (hx.symm.trans ht)
  · obtain ⟨c, m, l, b, p, hm⟩ := retire_moves len cyc u
    rw [hm]
    exact .inl hu.status
  · exact .inr ⟨r, _, hr, rfl⟩

/-- A producer step, its fetch included, comes to the same two ends as an instruction. -/
theorem instructionStep_ends (s : State) : Ends s (instructionStep s) := by
  have hf := fetch_keeps s
  unfold instructionStep
  split <;> rename_i hx <;> rw [hx] at hf
  · exact (exec_ends _ _).trans hf
  · exact ⟨_, hf.2, .inr ⟨_, hf.1, rfl⟩⟩

/-! ## What a turn can do -/

/-- A step that has a next state is the turn of the agent whose turn it is. -/
theorem of_step_next {s t : State} (h : step s = .next t) :
    (nextAgent s = .producer ∧ producerTurn (takeTurn s) = .next t) ∨
    (nextAgent s = .consumer ∧ t = consumerTurn (takeTurn s)) := by
  unfold step machineStep at h
  split at h
  · cases h
  · split at h
    · exact .inl ⟨‹_›, h⟩
    · exact .inr ⟨‹_›, (Host.Outcome.next.inj h).symm⟩

/-- The producer's turn: nothing after an exit, an instruction while its phase is Running, a hand-off step or a wait
else. -/
theorem of_producerTurn_next {s t : State} (h : producerTurn s = .next t) :
    ((∃ r pc, s.status = .exited r pc) ∧ t = s) ∨
    (s.status = .running ∧ s.phase = .running ∧ instructionStep s = .next t) ∨
    (s.status = .running ∧ s.phase ≠ .running ∧ t = handoffStep s) := by
  unfold producerTurn at h
  split at h
  · exact .inl ⟨⟨_, _, ‹_›⟩, (Host.Outcome.next.inj h).symm⟩
  · split at h <;> rename_i hp
    · exact .inr (.inl ⟨‹_›, hp, h⟩)
    · exact .inr (.inr ⟨‹_›, by rw [hp]; decide, (Host.Outcome.next.inj h).symm⟩)
    · exact .inr (.inr ⟨‹_›, by rw [hp]; decide, (Host.Outcome.next.inj h).symm⟩)

/-! ## The PPU's loop: what each transition writes (48_ppu.md R281, R282) -/

section
variable {s : State}

theorem ppuTransition_oamScan (h : s.mode = .oamScan) : ppuTransition s =
    { s with clock := clockAfter s.params.ppuOvershoot s.mode s.clock, mode := .pixelTransfer } := by
  simp [ppuTransition, h]

theorem ppuTransition_pixelTransfer (h : s.mode = .pixelTransfer) : ppuTransition s =
    { renderLine s.line s with
      clock := clockAfter s.params.ppuOvershoot s.mode s.clock, mode := .hBlank } := by
  simp [ppuTransition, renderLine, h]

theorem ppuTransition_hBlank_entry (h : s.mode = .hBlank) (hl : s.line + 1 = s.params.vblankEntry.toNat) :
    ppuTransition s = beginPublish
      { s with clock := clockAfter s.params.ppuOvershoot s.mode s.clock, mode := .vBlank, line := s.line + 1 } := by
  simp [ppuTransition, h, hl]

theorem ppuTransition_hBlank_next (h : s.mode = .hBlank) (hl : s.line + 1 ≠ s.params.vblankEntry.toNat) :
    ppuTransition s =
      { s with clock := clockAfter s.params.ppuOvershoot s.mode s.clock, mode := .oamScan, line := s.line + 1 } := by
  simp [ppuTransition, h, hl]

theorem ppuTransition_vBlank_last (h : s.mode = .vBlank) (hl : 153 < s.line + 1) : ppuTransition s =
    { s with clock := clockAfter s.params.ppuOvershoot s.mode s.clock, mode := .oamScan, line := 0 } := by
  simp [ppuTransition, h, hl]

theorem ppuTransition_vBlank_next (h : s.mode = .vBlank) (hl : ¬ 153 < s.line + 1) : ppuTransition s =
    { s with clock := clockAfter s.params.ppuOvershoot s.mode s.clock, line := s.line + 1 } := by
  simp [ppuTransition, h, hl]

end

/-! ## The invariant inside the PPU's loop -/

/-- The bounds of R298 (48_ppu.md) besides the clock's. -/
structure PpuPlace (s : State) : Prop where
  line_le : s.line ≤ 153
  line_lt : s.mode ≠ .vBlank → s.line < s.params.vblankEntry.toNat
  entry_le : s.mode = .vBlank → s.params.vblankEntry.toNat ≤ s.line
  blocked : s.phase ≠ .running → s.mode = .vBlank ∧ s.line = s.params.vblankEntry.toNat

/-- What every turn of the PPU's loop keeps: the machine's invariant but for the clock's bound, which a tick report may
break and the loop's end restores. -/
structure LoopInv (s : State) : Prop where
  mem : MemInv s
  ppu : PpuPlace s
  handoff : HandoffInv s

theorem MachineInv.loopInv {s : State} (h : MachineInv s) : LoopInv s := by
  obtain ⟨hmem, ⟨-, h1, h2, h3, h4⟩, hhand⟩ := h
  exact ⟨hmem, ⟨h1, h2, h3, h4⟩, hhand⟩

theorem vblankEntry_bounds (p : VblankEntry) : 0 < p.toNat ∧ p.toNat ≤ 144 := by cases p <;> decide

/-- A run of bytes within a frame leaves a frame. -/
theorem frameOk_writeRun {m : Memory} {base : Nat} {bytes : List Byte} (h : frameOk m = true)
    (hb : base + bytes.length ≤ frameSize) : frameOk (m.writeRun base bytes) = true := by
  simp only [frameOk, Bool.and_eq_true] at h ⊢
  exact ⟨Memory.wf_writeRun base bytes h.1, Memory.keysOk_writeRun base bytes h.2 fun k _ hk => by
    simp only [decide_eq_true_eq]; omega⟩

/-- FB and the frames handed over. -/
theorem MemInv.frames {s : State} (h : MemInv s) :
    frameOk s.fb = true ∧ s.slot.all frameOk = true ∧ s.held.all frameOk = true := by
  obtain ⟨-, -, -, -, -, -, -, -, hframes⟩ := h
  exact hframes

/-- Other frames in the place of FB and of those handed over. -/
theorem MemInv.withFrames {s : State} {fb : Memory} {slot held : Option Memory} (h : MemInv s)
    (hfb : frameOk fb = true) (hslot : slot.all frameOk = true) (hheld : held.all frameOk = true) :
    MemInv { s with fb := fb, slot := slot, held := held } := by
  obtain ⟨hb, hbk, hr, hrk, h1, h2, hm, hmk, -⟩ := h
  exact ⟨hb, hbk, hr, hrk, h1, h2, hm, hmk, hfb, hslot, hheld⟩

/-- A visible row lies within FB (48_ppu.md R294). -/
theorem renderLine_memInv {s : State} {l : Nat} (hl : l < 144) (h : MemInv s) : MemInv (renderLine l s) := by
  obtain ⟨hfb, hslot, hheld⟩ := h.frames
  refine h.withFrames (frameOk_writeRun hfb ?_) hslot hheld
  rw [rowBytes_length, frameSize]
  omega

/-- A publication begins only where a consumer is attached, and moves the phase alone (49_frame_handoff.md R312). -/
theorem beginPublish_loopInv {s : State} (hmode : s.mode = .vBlank)
    (hline : s.line = s.params.vblankEntry.toNat) (h : LoopInv s) : LoopInv (beginPublish s) := by
  unfold beginPublish
  split
  · rename_i hatt
    obtain ⟨hmem, ⟨h1, h2, h3, -⟩, -, hone, hflag, -⟩ := h
    exact ⟨hmem, ⟨h1, h2, h3, fun _ => ⟨hmode, hline⟩⟩, Phase.noConfusion, hone, hflag,
      fun hdet => by simp [hatt] at hdet⟩
  · exact h

/-- Every due transition keeps the loop's invariant. -/
theorem ppuTransition_loopInv {s : State} (hrun : s.phase = .running) (h : LoopInv s) :
    LoopInv (ppuTransition s) := by
  obtain ⟨hmem, ⟨hle, hlt, hge, -⟩, hhand⟩ := h
  obtain ⟨hpos, hmax⟩ := vblankEntry_bounds s.params.vblankEntry
  have notBlocked {P : Prop} : s.phase ≠ .running → P := fun hne => absurd hrun hne
  cases hm : s.mode with
  | oamScan =>
    have hl := hlt (by simp [hm])
    rw [ppuTransition_oamScan hm]
    exact ⟨hmem, ⟨hle, fun _ => hl, PpuMode.noConfusion, notBlocked⟩, hhand⟩
  | pixelTransfer =>
    have hl := hlt (by simp [hm])
    rw [ppuTransition_pixelTransfer hm]
    exact ⟨renderLine_memInv (by omega) hmem, ⟨hle, fun _ => hl, PpuMode.noConfusion, notBlocked⟩, hhand⟩
  | hBlank =>
    have hl := hlt (by simp [hm])
    by_cases he : s.line + 1 = s.params.vblankEntry.toNat
    · rw [ppuTransition_hBlank_entry hm he]
      exact beginPublish_loopInv rfl he
        ⟨hmem, ⟨show s.line + 1 ≤ 153 by omega, fun hne => absurd rfl hne, fun _ => he.ge, notBlocked⟩, hhand⟩
    · rw [ppuTransition_hBlank_next hm he]
      exact ⟨hmem, ⟨show s.line + 1 ≤ 153 by omega, fun _ => Nat.lt_of_le_of_ne hl he, PpuMode.noConfusion, notBlocked⟩,
        hhand⟩
  | vBlank =>
    by_cases hlast : 153 < s.line + 1
    · rw [ppuTransition_vBlank_last hm hlast]
      exact ⟨hmem, ⟨Nat.zero_le _, fun _ => hpos, PpuMode.noConfusion, notBlocked⟩, hhand⟩
    · rw [ppuTransition_vBlank_next hm hlast]
      exact ⟨hmem, ⟨show s.line + 1 ≤ 153 by omega, fun hne => absurd hm hne, fun _ => Nat.le_succ_of_le (hge hm),
        notBlocked⟩, hhand⟩

theorem ppuRunFuel_loopInv (n : Nat) {s : State} (h : LoopInv s) : LoopInv (ppuRunFuel n s) := by
  induction n generalizing s with
  | zero => exact h
  | succ n ih =>
    rw [ppuRunFuel_succ]
    split
    · rename_i hd
      simp only [ppuDue, Bool.and_eq_true, decide_eq_true_eq] at hd
      exact ih (ppuTransition_loopInv hd.1 h)
    · exact h

/-- The loop's end restores the clock's bound: no transition is due then. -/
theorem ppuRun_machineInv {s : State} (h : LoopInv s) : MachineInv (ppuRun s) := by
  obtain ⟨hmem, ⟨hle, hlt, hge, hblocked⟩, hhand⟩ : LoopInv (ppuRun s) := ppuRunFuel_loopInv _ h
  refine ⟨hmem, ⟨fun hrun => ?_, hle, hlt, hge, hblocked⟩, hhand⟩
  simpa [ppuDue, hrun] using ppuRun_settles s

/-! ## The invariant across an instruction -/

/-- An instruction's body, its fetch included, keeps the invariant. -/
theorem BodyKeeps.machineInv {s u : State} (h : BodyKeeps s u) (hs : MachineInv s) : MachineInv u := by
  obtain ⟨⟨hb, hbk, hr, hrk, h1, h2, hm, hmk, hfb, hslot, hheld⟩, hppu, hhand⟩ := hs
  refine ⟨⟨?_, ?_, ?_, ?_, ?_, ?_, h.ramWf hm, h.ramKeys hmk, ?_, ?_, ?_⟩, ?_, ?_⟩
  all_goals simpa only [PpuInv, HandoffInv, h.boot, h.rom, h.romLen, h.clock, h.mode, h.line, h.fb, h.consumed, h.slot,
    h.phase, h.held, h.params]

/-- The tick report keeps the invariant: it may break the clock's bound alone, and the loop restores it. -/
theorem retire_machineInv {s : State} (len cyc : Nat) (h : MachineInv s) : MachineInv (retire len cyc s) := by
  obtain ⟨hmem, ⟨h1, h2, h3, h4⟩, hhand⟩ := h.loopInv
  exact ppuRun_machineInv ⟨hmem, ⟨h1, h2, h3, h4⟩, hhand⟩

/-- Either end of an instruction keeps the invariant; an exit writes the status alone. -/
theorem Ends.machineInv {s t : State} {x : Host.Outcome State Fault Refusal} (h : Ends s x) (hs : MachineInv s)
    (ht : x = .next t) : MachineInv t := by
  obtain ⟨u, hu, ⟨len, cyc, hx⟩ | ⟨r, -, hx⟩⟩ := h <;> obtain rfl := Host.Outcome.next.inj (hx.symm.trans ht)
  · exact retire_machineInv len cyc (hu.machineInv hs)
  · exact hu.machineInv hs

/-! ## The invariant across a turn -/

theorem takeTurn_machineInv {s : State} (h : MachineInv s) : MachineInv (takeTurn s) := by
  obtain ⟨l, n, ht⟩ := takeTurn_eq s
  rw [ht]
  exact h

/-- The publication's end: the flag is down, the slot was empty and takes a copy of FB, and the PPU's loop goes on
(49_frame_handoff.md R313, R315). -/
theorem handoffAck_machineInv {s : State} (hphase : s.phase ≠ .running) (hcons : s.consumed = true)
    (h : MachineInv s) : MachineInv (handoffAck s) := by
  obtain ⟨hmem, ⟨hle, hlt, hge, -⟩, -, -, hflag, hdet⟩ := h.loopInv
  obtain ⟨hfb, -, hheld⟩ := hmem.frames
  obtain ⟨hslot, hnone⟩ := hflag.mp hcons
  have hack : handoffAck s = ppuRun { s with consumed := false, slot := some s.fb, phase := .running } := by
    simp [handoffAck, publish, hslot]
  rw [hack]
  exact ppuRun_machineInv ⟨hmem.withFrames hfb hfb hheld, ⟨hle, hlt, hge, fun hne => absurd rfl hne⟩, Phase.noConfusion, .inr hnone, by simp,
    fun hd => absurd (hdet hd).1 hphase⟩

/-- Under the invariant a blocked producer waits for the flag and never for the slot (49_frame_handoff.md R319). -/
theorem handoffStep_machineInv {s : State} (h : MachineInv s) : MachineInv (handoffStep s) := by
  unfold handoffStep
  split <;> rename_i hphase
  · exact h
  · split
    · exact handoffAck_machineInv (by simp [hphase]) ‹_› h
    · exact h
  · obtain ⟨-, -, hnever, -⟩ := h
    exact absurd hphase hnever

/-- The consumer's steps keep the invariant: a frame moves from the slot to the consumer, or is done with and the flag
goes up (49_frame_handoff.md R316, R317). -/
theorem consumerTurn_machineInv {s : State} (h : MachineInv s) : MachineInv (consumerTurn s) := by
  obtain ⟨hmem, hppu, hphase, hone, hflag, hdet⟩ := h
  obtain ⟨hfb, hslot, hheld⟩ := hmem.frames
  unfold consumerTurn
  split
  · rename_i hen
    simp only [consumerEnabled, Bool.and_eq_true, Bool.or_eq_true] at hen
    obtain ⟨hatt, hframe⟩ := hen
    have attached {P : Prop} : s.params.consumerAttached = false → P := fun hd => by simp [hatt] at hd
    split
    · rename_i hsome
      have hempty : s.slot = none := hone.resolve_right (Option.isSome_iff_ne_none.mp hsome)
      exact ⟨hmem.withFrames hfb hslot rfl, hppu, hphase, .inr rfl,
        ⟨fun _ => ⟨hempty, rfl⟩, fun _ => rfl⟩, attached⟩
    · rename_i hheld'
      have hfull : s.slot ≠ none := Option.isSome_iff_ne_none.mp (hframe.resolve_left hheld')
      exact ⟨hmem.withFrames hfb rfl hslot, hppu, hphase, .inl rfl,
        ⟨fun hc => absurd (hflag.mp hc).1 hfull, fun hn => absurd hn.2 hfull⟩, attached⟩
  · exact ⟨hmem, hppu, hphase, hone, hflag, hdet⟩

theorem producerTurn_machineInv {s t : State} (h : MachineInv s) (ht : producerTurn s = .next t) : MachineInv t := by
  obtain ⟨-, rfl⟩ | ⟨-, -, hi⟩ | ⟨-, -, rfl⟩ := of_producerTurn_next ht
  · exact h
  · exact (instructionStep_ends s).machineInv h hi
  · exact handoffStep_machineInv h

/-- Settles O19: each agent's turn keeps the invariant, the PPU's loop through `LoopInv`. -/
theorem stepKeepsInvariant : Obligations.StepKeepsInvariant := by
  intro s t hs h
  have hturn := takeTurn_machineInv hs
  obtain ⟨-, hp⟩ | ⟨-, rfl⟩ := of_step_next h
  · exact producerTurn_machineInv hturn hp
  · exact consumerTurn_machineInv hturn

/-- Settles O17: what holds of either end of an instruction. -/
theorem noInstructionTouchesRun : Obligations.NoInstructionTouchesRun :=
  fun i s _ h => (exec_ends i s).keepsRun h

end Sys2Proof.Machine

/-! PROOFS. What no step changes (O21), the run after an exit (O7), the values of reset (O22), the pairs and the flags'
byte (O24). -/

namespace Sys2Proof.Machine

/-! ## What no step of either agent changes -/

/-- The images and the parameters as they were, and a set lock still set (10_state.md R28, R29). -/
structure KeepsImages (s t : State) : Prop where
  boot : t.boot = s.boot
  rom : t.rom = s.rom
  romLen : t.romLen = s.romLen
  params : t.params = s.params
  locked : s.bootLocked = true → t.bootLocked = true

/-- How a step may move the run status: not at all, or from Running to an exit other than `Clean`. -/
def StatusMoves (s t : State) : Prop :=
  t.status = s.status ∨ (s.status = .running ∧ ∃ r pc, r ≠ .clean ∧ t.status = .exited r pc)

theorem consumerTurn_keeps (s : State) : KeepsImages s (consumerTurn s) ∧ StatusMoves s (consumerTurn s) := by
  obtain ⟨k, f, g, h⟩ := consumerTurn_moves s
  rw [h]
  exact ⟨⟨rfl, rfl, rfl, rfl, id⟩, .inl rfl⟩

theorem handoffStep_keeps (s : State) : KeepsImages s (handoffStep s) ∧ StatusMoves s (handoffStep s) := by
  obtain ⟨c, m, l, b, p, k, f, h⟩ := handoffStep_moves s
  rw [h]
  exact ⟨⟨rfl, rfl, rfl, rfl, id⟩, .inl rfl⟩

theorem producerTurn_keeps {s t : State} (h : producerTurn s = .next t) : KeepsImages s t ∧ StatusMoves s t := by
  obtain ⟨-, rfl⟩ | ⟨hrun, -, hi⟩ | ⟨-, -, rfl⟩ := of_producerTurn_next h
  · exact ⟨⟨rfl, rfl, rfl, rfl, id⟩, .inl rfl⟩
  · have hends := instructionStep_ends s
    obtain ⟨⟨hboot, hrom, hlen, hparams, -⟩, hlock⟩ := hends.keepsRun hi
    exact ⟨⟨hboot, hrom, hlen, hparams, hlock⟩, (hends.status hi).imp_right fun he => ⟨hrun, he⟩⟩
  · exact handoffStep_keeps s

/-- Taking the turn off moves the model's own fields alone, so a step keeps what the agent's turn keeps. -/
theorem step_keeps {s t : State} (h : step s = .next t) : KeepsImages s t ∧ StatusMoves s t := by
  have hturn : KeepsImages (takeTurn s) t ∧ StatusMoves (takeTurn s) t := by
    obtain ⟨-, hp⟩ | ⟨-, rfl⟩ := of_step_next h
    · exact producerTurn_keeps hp
    · exact consumerTurn_keeps _
  obtain ⟨l, n, ht⟩ := takeTurn_eq s
  rw [ht] at hturn
  obtain ⟨⟨hboot, hrom, hlen, hparams, hlock⟩, hstatus⟩ := hturn
  exact ⟨⟨hboot, hrom, hlen, hparams, hlock⟩, hstatus⟩

/-- Settles O21: a step keeps the images and the lock, and moves the status as `StatusMoves` allows. -/
theorem stepKeepsImagesAndLock : Obligations.StepKeepsImagesAndLock := by
  intro s t h
  obtain ⟨⟨hboot, hrom, hlen, hparams, hlock⟩, hstatus⟩ := step_keeps h
  refine ⟨hboot, hrom, hlen, hparams, hlock, fun hclean pc => ?_, fun reason pc hexit => ?_⟩
  · obtain hsame | ⟨-, r, pc', hr, hexit⟩ := hstatus
    · rw [hsame]
      exact hclean pc
    · rw [hexit]
      exact fun he => hr (RunStatus.exited.inj he).1
  · obtain hsame | ⟨hrun, -⟩ := hstatus
    · exact hsame.trans hexit
    · rw [hrun] at hexit
      cases hexit

/-! ## After an exit -/

section
variable {s : State}

/-- The producer's turn is taken while the run goes on or the consumer has a step. -/
theorem step_of_producer (h : s.status = .running ∨ consumerEnabled s = true) (ha : nextAgent s = .producer) :
    step s = producerTurn (takeTurn s) := by
  unfold step machineStep
  split
  · rename_i hexit hdone
    simp [hexit, hdone] at h
  · rw [ha]

/-- The consumer's turn is taken while the run goes on or the consumer has a step. -/
theorem step_of_consumer (h : s.status = .running ∨ consumerEnabled s = true) (ha : nextAgent s = .consumer) :
    step s = .next (consumerTurn (takeTurn s)) := by
  unfold step machineStep
  split
  · rename_i hexit hdone
    simp [hexit, hdone] at h
  · rw [ha]

end

theorem producerTurn_of_exited {s : State} {reason : ExitReason} {pc : Word} (h : s.status = .exited reason pc) :
    producerTurn s = .next s := by
  simp [producerTurn, h]

@[simp] theorem takeTurn_status (s : State) : (takeTurn s).status = s.status := by
  obtain ⟨l, n, ht⟩ := takeTurn_eq s
  rw [ht]

/-- Settles O7: the fault where neither agent has a step, and each agent's turn while the consumer has one. -/
theorem noProducerStepAfterExit : Obligations.NoProducerStepAfterExit := by
  intro s reason pc hexit
  refine ⟨fun hdone => ?_, fun hen hturn => ?_, fun hen hturn => ?_⟩
  · simp [step, machineStep, hexit, hdone]
  · rw [step_of_producer (.inr hen) hturn]
    exact producerTurn_of_exited ((takeTurn_status s).trans hexit)
  · exact step_of_consumer (.inr hen) hturn

/-! ## Reset, the pairs and the flags' byte -/

/-- Settles O22, value by value. -/
theorem resetValues : Obligations.ResetValues :=
  ⟨fun r => by cases r <;> rfl, by decide, rfl, rfl, rfl, rfl, rfl, rfl, rfl, rfl, rfl, rfl, rfl, rfl, rfl, rfl⟩

/-- The flags' byte over natural numbers (10_state.md R21, R22). -/
theorem Flags.toByte_toNat (f : Flags) :
    f.toByte.toNat = f.z.toNat * 128 + f.n.toNat * 64 + f.h.toNat * 32 + f.c.toNat * 16 := by
  obtain ⟨z, n, h, c⟩ := f
  cases z <;> cases n <;> cases h <;> cases c <;> rfl

theorem hiByte_eq_ofNat (w : Word) : hiByte w = BitVec.ofNat 8 (w.toNat / 256) := by
  have := (hiByte w).isLt
  apply BitVec.eq_of_toNat_eq
  rw [BitVec.toNat_ofNat, ← hiByte_toNat, Nat.mod_eq_of_lt this]

theorem loByte_eq_ofNat (w : Word) : loByte w = BitVec.ofNat 8 w.toNat := by
  apply BitVec.eq_of_toNat_eq
  rw [BitVec.toNat_ofNat, loByte_toNat]

/-- Settles O24: a pair is `wordOf` its halves, a write of one splits the word, and F drops its low nibble. -/
theorem pairsAndFlagsByte : Obligations.PairsAndFlagsByte := by
  intro s w
  rw [← hiByte_eq_ofNat, ← loByte_eq_ofNat]
  exact ⟨Flags.toByte_toNat s.f, wordOf_toNat _ _, wordOf_toNat _ _, wordOf_toNat _ _, wordOf_toNat _ _,
    rfl, rfl, rfl, rfl, Flags.toByte_ofByte _⟩

end Sys2Proof.Machine

/-! PROOFS. The frame of the 8-bit forms that store nothing (O57): each operation on the state has its frame, and each
family of rows is a chain of them. -/

namespace Sys2Proof.Machine

/-! ## The normal end and a form that stores nothing -/

@[simp] theorem retire_sp (len cyc : Nat) (s : State) : (retire len cyc s).sp = s.sp := by
  obtain ⟨c, m, l, b, p, h⟩ := retire_moves len cyc s
  rw [h]

@[simp] theorem retire_ime (len cyc : Nat) (s : State) : (retire len cyc s).ime = s.ime := by
  obtain ⟨c, m, l, b, p, h⟩ := retire_moves len cyc s
  rw [h]

@[simp] theorem retire_f (len cyc : Nat) (s : State) : (retire len cyc s).f = s.f := by
  obtain ⟨c, m, l, b, p, h⟩ := retire_moves len cyc s
  rw [h]

theorem State.getR8_setHl_of_ne (s : State) (q : Reg8) (w : Word) (hh : q ≠ .h) (hl : q ≠ .l) :
    (s.setHl w).getR8 q = s.getR8 q := by
  cases q with
  | h => exact absurd rfl hh
  | l => exact absurd rfl hl
  | _ => rfl

section
variable {dest : List Reg8} {s t u : State}

theorem StoresNothing.trans (h : StoresNothing dest s t) (k : StoresNothing dest t u) : StoresNothing dest s u := by
  obtain ⟨hregs, ⟨hlock, hifr, hier, hscy, hscx⟩, hmem, ⟨r1, r2, r3, r4, r5, r6, r7, r8, r9⟩⟩ := h
  obtain ⟨kregs, ⟨klock, kifr, kier, kscy, kscx⟩, kmem, ⟨q1, q2, q3, q4, q5, q6, q7, q8, q9⟩⟩ := k
  exact ⟨fun r hr => (kregs r hr).trans (hregs r hr),
    ⟨klock.trans hlock, kifr.trans hifr, kier.trans hier, kscy.trans hscy, kscx.trans hscx⟩,
    fun a ha hb => (kmem a ha hb).trans (hmem a ha hb),
    ⟨q1.trans r1, q2.trans r2, q3.trans r3, q4.trans r4, q5.trans r5, q6.trans r6, q7.trans r7, q8.trans r8,
      q9.trans r9⟩⟩

/-- The decoder reads none of the registers, and no store depends on one. -/
theorem StoresNothing.cpu (s : State) (a b c d e h l : Byte) (f : Flags) (sp pc : Word) (ime : Bool) (n : Nat)
    (hregs : KeepsRegs dest s { s with
      a := a, b := b, c := c, d := d, e := e, h := h, l := l, f := f, sp := sp, pc := pc, ime := ime
      drawCount := n }) :
    StoresNothing dest s { s with
      a := a, b := b, c := c, d := d, e := e, h := h, l := l, f := f, sp := sp, pc := pc, ime := ime
      drawCount := n } :=
  ⟨hregs, ⟨rfl, rfl, rfl, rfl, rfl⟩, fun _ _ _ => rfl, ⟨rfl, rfl, rfl, rfl, rfl, rfl, rfl, rfl, rfl⟩⟩

theorem StoresNothing.setR8 (s : State) {r : Reg8} (v : Byte) (h : r ∈ dest) : StoresNothing dest s (s.setR8 r v) := by
  have hregs : KeepsRegs dest s (s.setR8 r v) := fun q hq =>
    State.getR8_setR8_of_ne s r q v fun he => hq (he ▸ h)
  cases r <;> exact .cpu s _ _ _ _ _ _ _ _ _ _ _ _ hregs

theorem StoresNothing.setHl (s : State) (w : Word) (hh : .h ∈ dest) (hl : .l ∈ dest) :
    StoresNothing dest s (s.setHl w) :=
  .cpu s _ _ _ _ _ _ _ _ _ _ _ _ fun q hq =>
    State.getR8_setHl_of_ne s q w (fun he => hq (he ▸ hh)) (fun he => hq (he ▸ hl))

theorem StoresNothing.setF (s : State) (f : Flags) : StoresNothing dest s (s.setF f) :=
  .cpu s _ _ _ _ _ _ _ _ _ _ _ _ fun q _ => State.getR8_setF s q f

theorem StoresNothing.drawn (s : State) (n : Nat) : StoresNothing dest s { s with drawCount := n } :=
  .cpu s _ _ _ _ _ _ _ _ _ _ _ _ fun q _ => by cases q <;> rfl

/-- The tick report moves pc and the PPU; of what the decoder answers with, LY alone. -/
theorem StoresNothing.retire (len cyc : Nat) (s : State) : StoresNothing dest s (retire len cyc s) := by
  obtain ⟨c, m, l, b, p, h⟩ := retire_moves len cyc s
  rw [h]
  refine ⟨fun q _ => by cases q <;> rfl, ⟨rfl, rfl, rfl, rfl, rfl⟩, fun a ha _ => ?_,
    ⟨rfl, rfl, rfl, rfl, rfl, rfl, rfl, rfl, rfl⟩⟩
  exact busRead_congr a rfl rfl rfl rfl rfl rfl rfl rfl rfl rfl (.inl fun hly => ha (route_ly hly))

end

/-! ## The frame of an 8-bit form that stores nothing -/

/-- The listed registers alone may be written, SP and IME are kept, and the flags stand as `kept` says. -/
def ByteFrame (dest : List Reg8) (kept : Flags → Flags → Prop) (s t : State) : Prop :=
  StoresNothing dest s t ∧ t.sp = s.sp ∧ t.ime = s.ime ∧ kept s.f t.f

/-- All four flags as they were. -/
def AllFlags (f g : Flags) : Prop := g = f

/-- No flag need be as it was. -/
def NoFlags (_ _ : Flags) : Prop := True

section
variable {dest : List Reg8} {kept : Flags → Flags → Prop} {s t : State}

theorem ByteFrame.retire (h : ByteFrame dest kept s t) (len cyc : Nat) : ByteFrame dest kept s (retire len cyc t) := by
  obtain ⟨hstore, hsp, hime, hf⟩ := h
  exact ⟨hstore.trans (.retire len cyc t), by simpa using hsp, by simpa using hime, by simpa using hf⟩

/-- The frame of a form with no access. -/
theorem ByteFrame.of_done {r : Report} {u : State} (h : RunsTo (finish (.done r u)) t) (hu : ByteFrame dest kept s u) :
    ByteFrame dest kept s t := by
  obtain ⟨ht, -⟩ := h
  obtain rfl := Host.Outcome.next.inj ht
  exact hu.retire r.len r.cyc

/-- The frame of a form whose one access is the load of its operand: the load uses up a draw at most, so it is the
frame of what follows, from the loaded byte and any draw count. -/
theorem ByteFrame.of_load {x : Loc} {r : Report} {g : Byte → State → State}
    (h : RunsTo (finish ((loadLoc x s).bind fun v u => .done r (g v u))) t)
    (hg : ∀ v n, ByteFrame dest kept s (g v { s with drawCount := n })) : ByteFrame dest kept s t := by
  obtain ⟨r', u, hx, rfl⟩ := of_runsTo_finish h
  obtain ⟨v, w, hload, hdone⟩ := Access.of_bind_done hx
  obtain ⟨n, rfl⟩ := of_loadLoc_done hload
  cases hdone
  exact (hg v n).retire _ _

theorem ByteFrame.drawn (s : State) (n : Nat) : ByteFrame dest AllFlags s { s with drawCount := n } :=
  ⟨.drawn s n, rfl, rfl, rfl⟩

theorem ByteFrame.refl (s : State) : ByteFrame dest AllFlags s s := .drawn s s.drawCount

theorem ByteFrame.setR8 {r : Reg8} (h : ByteFrame dest kept s t) (v : Byte) (hr : r ∈ dest) :
    ByteFrame dest kept s (t.setR8 r v) := by
  obtain ⟨hstore, hsp, hime, hf⟩ := h
  exact ⟨hstore.trans (.setR8 t v hr), by simpa using hsp, by simpa using hime, by simpa using hf⟩

theorem ByteFrame.setHl (h : ByteFrame dest kept s t) (w : Word) (hh : .h ∈ dest) (hl : .l ∈ dest) :
    ByteFrame dest kept s (t.setHl w) := by
  obtain ⟨hstore, hsp, hime, hf⟩ := h
  exact ⟨hstore.trans (.setHl t w hh hl), hsp, hime, hf⟩

/-- A write of the flags: what stood before it is forgotten. -/
theorem ByteFrame.setF {kept' : Flags → Flags → Prop} {f : Flags} (h : ByteFrame dest kept' s t) (hf : kept s.f f) :
    ByteFrame dest kept s (t.setF f) := by
  obtain ⟨hstore, hsp, hime, -⟩ := h
  exact ⟨hstore.trans (.setF t f), hsp, hime, hf⟩

end

/-! ## The frames of the families -/

section
variable {s t : State}

theorem ldLoc_frame (r : Reg8) (o : Operand8) (h : RunsTo (ldLoc (.reg r) o s) t) : ByteFrame [r] AllFlags s t :=
  ByteFrame.of_load (g := fun v u => u.setR8 r v) h fun v n => (ByteFrame.drawn s n).setR8 v (by simp)

theorem ldLocImm_frame (r : Reg8) (n : Byte) (h : RunsTo (ldLocImm (.reg r) n s) t) : ByteFrame [r] AllFlags s t :=
  .of_done h ((ByteFrame.refl s).setR8 n (by simp))

theorem ldADirect_frame (len cyc : Nat) (a : Word) (h : RunsTo (ldADirect len cyc a s) t) :
    ByteFrame [.a] AllFlags s t :=
  ByteFrame.of_load (x := .mem a) (g := fun v u => u.setR8 .a v) h fun v n =>
    (ByteFrame.drawn s n).setR8 v (by simp)

theorem ldAHLStep_frame (w : Word) (h : RunsTo (ldAHLStep w s) t) : ByteFrame [.a, .h, .l] AllFlags s t :=
  ByteFrame.of_load (x := .mem s.hl) (g := fun v u => (u.setR8 .a v).setHl (s.hl + w)) h fun v n =>
    ((ByteFrame.drawn s n).setR8 v (by simp)).setHl _ (by simp) (by simp)

/-- The registers an ALU operation writes: A, and none for CP (42_alu8.md R189). -/
def aluDest (op : AluOp) : List Reg8 := if op = .cp then [] else [.a]

theorem aluApply_frame (op : AluOp) (v : Byte) (h : ByteFrame (aluDest op) AllFlags s t) :
    ByteFrame (aluDest op) NoFlags s (aluApply op v t) := by
  cases op with
  | cp => exact h.setF trivial
  | _ => exact (h.setR8 _ (by simp [aluDest])).setF trivial

theorem aluLoc_frame (op : AluOp) (o : Operand8) (h : RunsTo (aluLoc op o s) t) : ByteFrame (aluDest op) NoFlags s t :=
  ByteFrame.of_load (g := aluApply op) h fun v n => aluApply_frame op v (.drawn s n)

theorem aluImm_frame (op : AluOp) (n : Byte) (h : RunsTo (aluImm op n s) t) : ByteFrame (aluDest op) NoFlags s t :=
  .of_done h (aluApply_frame op n (.refl s))

theorem incLoc_frame (r : Reg8) (h : RunsTo (incLoc (.reg r) s) t) : ByteFrame [r] (fun f g => g.c = f.c) s t :=
  .of_done h (((ByteFrame.refl s).setR8 _ (by simp)).setF rfl)

theorem decLoc_frame (r : Reg8) (h : RunsTo (decLoc (.reg r) s) t) : ByteFrame [r] (fun f g => g.c = f.c) s t :=
  .of_done h (((ByteFrame.refl s).setR8 _ (by simp)).setF rfl)

/-- DAA keeps N in both of its branches (42_alu8.md R196). -/
theorem daaCompute_n (f : Flags) (a : Byte) : (daaCompute f a).2.n = f.n := by
  unfold daaCompute
  split <;> rfl

theorem daa_frame (h : RunsTo (daa s) t) : ByteFrame [.a] (fun f g => g.n = f.n) s t :=
  .of_done h (((ByteFrame.refl s).setR8 _ (by simp)).setF (daaCompute_n s.f s.a))

theorem cpl_frame (h : RunsTo (cpl s) t) : ByteFrame [.a] (fun f g => g.z = f.z ∧ g.c = f.c) s t :=
  .of_done h (((ByteFrame.refl s).setR8 _ (by simp)).setF ⟨rfl, rfl⟩)

theorem scf_frame (h : RunsTo (scf s) t) : ByteFrame [] (fun f g => g.z = f.z) s t :=
  .of_done h ((ByteFrame.refl s).setF rfl)

theorem ccf_frame (h : RunsTo (ccf s) t) : ByteFrame [] (fun f g => g.z = f.z) s t :=
  .of_done h ((ByteFrame.refl s).setF rfl)

theorem accRotate_frame (op : AccRot) (h : RunsTo (accRotate op s) t) : ByteFrame [.a] NoFlags s t :=
  .of_done h (((ByteFrame.refl s).setR8 _ (by simp)).setF trivial)

theorem shiftLoc_frame (op : ShiftOp) (r : Reg8) (h : RunsTo (shiftLoc op (.reg r) s) t) :
    ByteFrame [r] NoFlags s t :=
  .of_done h (((ByteFrame.refl s).setR8 _ (by simp)).setF trivial)

theorem bitLoc_frame (k : Fin 8) (o : Operand8) (h : RunsTo (bitLoc k o s) t) :
    ByteFrame [] (fun f g => g.n = f.n ∧ g.h = f.h ∧ g.c = f.c) s t :=
  ByteFrame.of_load (g := fun v u => u.setF (bitFlags u.f k v)) h fun _ n =>
    (ByteFrame.drawn s n).setF ⟨rfl, rfl, rfl⟩

theorem resLoc_frame (k : Fin 8) (r : Reg8) (h : RunsTo (resLoc k (.reg r) s) t) : ByteFrame [r] AllFlags s t :=
  .of_done h ((ByteFrame.refl s).setR8 _ (by simp))

theorem setLoc_frame (k : Fin 8) (r : Reg8) (h : RunsTo (setLoc k (.reg r) s) t) : ByteFrame [r] AllFlags s t :=
  .of_done h ((ByteFrame.refl s).setR8 _ (by simp))

theorem nop_frame (h : RunsTo (nop s) t) : ByteFrame [] AllFlags s t := .of_done h (.refl s)

end

/-- Settles O57: each form is a row of its family, whose frame is proved once. -/
theorem frameOfByteForms : Obligations.FrameOfByteForms := by
  intro s t r o n b w k op sh frame all none
  exact ⟨fun h => ldLoc_frame r o (exec_instrLd (d := .reg r) (o := o) (by simp) s ▸ h),
    fun h => ldLocImm_frame r n (exec_instrLdImm _ n s ▸ h),
    ldADirect_frame 1 2 s.bc, ldADirect_frame 1 2 s.de, ldAHLStep_frame _, ldAHLStep_frame _,
    ldADirect_frame _ _ w, ldADirect_frame _ _ _, ldADirect_frame _ _ _,
    fun h => aluLoc_frame op o (exec_instrAlu op o s ▸ h),
    fun h => aluImm_frame op b (exec_instrAluImm op b s ▸ h),
    fun h => incLoc_frame r (exec_instrInc8 _ s ▸ h), fun h => decLoc_frame r (exec_instrDec8 _ s ▸ h),
    daa_frame, cpl_frame, scf_frame, ccf_frame,
    accRotate_frame .rlca, accRotate_frame .rrca, accRotate_frame .rla, accRotate_frame .rra,
    fun h => shiftLoc_frame sh r (exec_instrShift sh _ s ▸ h),
    fun h => bitLoc_frame k o (exec_instrBit k o s ▸ h),
    fun h => resLoc_frame k r (exec_instrRes k _ s ▸ h),
    fun h => setLoc_frame k r (exec_instrSet k _ s ▸ h), nop_frame⟩

end Sys2Proof.Machine

/-! PROOFS. The memory decoder: the read map (O25), the I/O window (O26), the write map (O27), the byte read back (O28)
and the boot lock (O30). What answers an address is said once, region by region; what an access then does is said once
per target. -/

namespace Sys2Proof.Machine

/-! ## The region that answers an address (20_memory.md R51) -/

section
variable {s : State} {a b : Word}

theorem route_overlay (h : a.toNat < 0x100) (hlock : s.bootLocked = false) : route s a = .boot a.toNat := by
  unfold route
  rw [if_pos (by omega), if_pos ⟨h, hlock⟩]

theorem route_cartridge (h : a.toNat < 0x8000) (hlock : a.toNat < 0x100 → s.bootLocked = true) :
    route s a = .rom a.toNat := by
  unfold route
  rw [if_pos h, if_neg fun hb => by simp [hlock hb.1] at hb]

/-- The read-write memory answers by bus address. -/
theorem route_readWrite (h : ramKey a.toNat = true) : route s a = .ram a.toNat := by
  simp only [ramKey, Bool.or_eq_true, Bool.and_eq_true, decide_eq_true_eq] at h
  unfold route
  rw [if_neg (by omega)]
  rcases h with h | h
  · rw [if_pos h.2]
  · rw [if_neg (by omega), if_neg (by omega), if_neg (by omega), if_neg (by omega), if_pos h.2]

/-- An echo address is answered by its work-RAM cell (20_memory.md R58). -/
theorem route_echo (h : 0xE000 ≤ a.toNat) (h' : a.toNat < 0xFE00) : route s a = .ram (cellOf a) := by
  unfold route cellOf
  rw [if_neg (by omega), if_neg (by omega), if_pos h', if_pos ⟨h, h'⟩]

theorem route_hole (h : 0xFE00 ≤ a.toNat) (h' : a.toNat < 0xFF00) : route s a = .unmapped := by
  unfold route
  rw [if_neg (by omega), if_neg (by omega), if_neg (by omega), if_pos h']

theorem route_io (h : 0xFF00 ≤ a.toNat) (h' : a.toNat < 0xFF80) : route s a = routeIo s.params a.toNat := by
  unfold route
  rw [if_neg (by omega), if_neg (by omega), if_neg (by omega), if_neg (by omega), if_pos h']

theorem route_interruptFlag (s : State) : route s 0xFF0F = .ifr := rfl

theorem route_interruptEnable (s : State) : route s 0xFFFF = .ier := rfl

/-! ## Aliases -/

theorem cellOf_of_not_echo (h : a.toNat < 0xE000 ∨ 0xFE00 ≤ a.toNat) : cellOf a = a.toNat := by
  unfold cellOf
  rw [if_neg (by omega)]

/-- An echo address and its work-RAM address have one cell. -/
theorem cellOf_sub_of_echo (h : 0xE000 ≤ a.toNat) (h' : a.toNat < 0xFE00) : cellOf (a - 0x2000) = cellOf a := by
  have hsub : (a - 0x2000).toNat = a.toNat - 0x2000 := by bv_omega
  rw [cellOf_of_not_echo (by omega), hsub]
  unfold cellOf
  rw [if_pos ⟨h, h'⟩]

/-- The read-write memory answers an address whose cell is one of its own, echo or not. -/
theorem route_of_ramKey (h : ramKey (cellOf a) = true) : route s a = .ram (cellOf a) := by
  by_cases he : 0xE000 ≤ a.toNat ∧ a.toNat < 0xFE00
  · exact route_echo he.1 he.2
  · have hc : cellOf a = a.toNat := cellOf_of_not_echo (by omega)
    rw [hc] at h ⊢
    exact route_readWrite h

/-- Two addresses of one cell are the same address, or both lie in the read-write memory. -/
theorem eq_or_ramKey_of_cellOf_eq (h : cellOf b = cellOf a) : b = a ∨ ramKey (cellOf a) = true := by
  by_cases hb : b = a
  · exact .inl hb
  · have hne : b.toNat ≠ a.toNat := fun he => hb (BitVec.eq_of_toNat_eq he)
    right
    unfold ramKey
    simp only [Bool.or_eq_true, Bool.and_eq_true, decide_eq_true_eq]
    unfold cellOf at h ⊢
    split_ifs at h ⊢ <;> omega

/-- One region answers both addresses of a cell. -/
theorem route_eq_of_cellOf_eq (h : cellOf b = cellOf a) : route s b = route s a := by
  obtain rfl | hk := eq_or_ramKey_of_cellOf_eq h
  · rfl
  · rw [route_of_ramKey hk, route_of_ramKey (h ▸ hk), h]

/-! ## The I/O window under `IO_STUB_SET` (20_memory.md R61 to R68) -/

theorem route_io_unlisted (h : 0xFF00 ≤ a.toNat) (h' : a.toNat < 0xFF80) (hifr : a ≠ 0xFF0F)
    (hset : inStubSet s.params a.toNat = false) : route s a = .unmapped := by
  have hne : a.toNat ≠ 0xFF0F := fun he => hifr (BitVec.eq_of_toNat_eq he)
  rw [route_io h h']
  unfold routeIo
  rw [if_neg hne, if_neg (by simp [hset])]

/-- A listed address with no register of its own is a stub. -/
theorem routeIo_stub {p : Params} {n : Nat} (hset : inStubSet p n = true)
    (hown : n ∉ [0xFF0F, 0xFF42, 0xFF43, 0xFF44, 0xFF50]) : routeIo p n = .stub := by
  simp only [List.mem_cons, List.not_mem_nil, or_false, not_or] at hown
  obtain ⟨hifr, hscy, hscx, hly, hlock⟩ := hown
  unfold routeIo
  rw [if_neg hifr, if_pos hset, if_neg hscy, if_neg hscx, if_neg hly, if_neg hlock]

/-- The addresses of the default `IO_STUB_SET` (20_memory.md R68). -/
theorem inStubSet_default {p : Params} (hp : p.ioStubSet = defaultIoStubSet) (n : Nat) :
    inStubSet p n = true ↔ (0xFF10 ≤ n ∧ n ≤ 0xFF26) ∨ (0xFF30 ≤ n ∧ n ≤ 0xFF3F) ∨ (0xFF40 ≤ n ∧ n ≤ 0xFF44) ∨
      (0xFF47 ≤ n ∧ n ≤ 0xFF49) ∨ n = 0xFF50 := by
  have hlock : 0xFF50 ≤ n ∧ n ≤ 0xFF50 ↔ n = 0xFF50 := by omega
  simp [inStubSet, hp, defaultIoStubSet, hlock]

end

/-! ## The I/O window under the default set -/

section
variable {s : State} {a : Word} (hp : s.params.ioStubSet = defaultIoStubSet)
include hp

theorem route_default_scy : route s 0xFF42 = .scy := by
  simp [route_io, routeIo, inStubSet_default hp]

theorem route_default_scx : route s 0xFF43 = .scx := by
  simp [route_io, routeIo, inStubSet_default hp]

theorem route_default_ly : route s 0xFF44 = .ly := by
  simp [route_io, routeIo, inStubSet_default hp]

theorem route_default_bootLock : route s 0xFF50 = .bootLock := by
  simp [route_io, routeIo, inStubSet_default hp]

/-- The sound registers, and the PPU registers that are not live. -/
theorem route_default_stub (h : (0xFF10 ≤ a.toNat ∧ a.toNat ≤ 0xFF26) ∨ (0xFF30 ≤ a.toNat ∧ a.toNat ≤ 0xFF3F) ∨
    a ∈ [0xFF40, 0xFF41, 0xFF47, 0xFF48, 0xFF49]) : route s a = .stub := by
  have hn : (0xFF10 ≤ a.toNat ∧ a.toNat ≤ 0xFF26) ∨ (0xFF30 ≤ a.toNat ∧ a.toNat ≤ 0xFF3F) ∨
      (0xFF40 ≤ a.toNat ∧ a.toNat ≤ 0xFF41) ∨ (0xFF47 ≤ a.toNat ∧ a.toNat ≤ 0xFF49) := by
    rcases h with h | h | h
    · exact .inl h
    · exact .inr (.inl h)
    · simp only [List.mem_cons, List.not_mem_nil, or_false] at h
      rcases h with rfl | rfl | rfl | rfl | rfl <;> decide
  rw [route_io (by omega) (by omega)]
  exact routeIo_stub ((inStubSet_default hp _).mpr (by omega)) (by simp; omega)

theorem route_default_unmapped (h : (0xFF00 ≤ a.toNat ∧ a.toNat ≤ 0xFF0E) ∨ (0xFF27 ≤ a.toNat ∧ a.toNat ≤ 0xFF2F) ∨
    (0xFF45 ≤ a.toNat ∧ a.toNat ≤ 0xFF46) ∨ (0xFF4A ≤ a.toNat ∧ a.toNat ≤ 0xFF4F) ∨
    (0xFF51 ≤ a.toNat ∧ a.toNat ≤ 0xFF7F)) : route s a = .unmapped := by
  have hset : inStubSet s.params a.toNat = false := by
    rw [Bool.eq_false_iff, Ne, inStubSet_default hp]
    omega
  refine route_io_unlisted (by omega) (by omega) ?_ hset
  rintro rfl
  simp at h

end

/-! ## What a read finds, by target -/

section
variable {s : State} {a b : Word}

theorem busRead_boot {n : Nat} (h : route s a = .boot n) : busRead s a = .byte (s.boot.read n) := by rw [busRead, h]

theorem busRead_rom {n : Nat} (h : route s a = .rom n) :
    busRead s a = if n < s.romLen then .byte (s.rom.read n) else .outOfBounds := by rw [busRead, h]

theorem busRead_ram {k : Nat} (h : route s a = .ram k) : busRead s a = .byte (s.ram.read k) := by rw [busRead, h]

theorem busRead_ifr (h : route s a = .ifr) : busRead s a = .byte s.ifr := by rw [busRead, h]

theorem busRead_ier (h : route s a = .ier) : busRead s a = .byte s.ier := by rw [busRead, h]

theorem busRead_scy (h : route s a = .scy) : busRead s a = .byte s.scy := by rw [busRead, h]

theorem busRead_scx (h : route s a = .scx) : busRead s a = .byte s.scx := by rw [busRead, h]

theorem busRead_ly (h : route s a = .ly) : busRead s a = .byte (BitVec.ofNat 8 s.line) := by rw [busRead, h]

theorem busRead_stub (h : route s a = .stub) : busRead s a = .draw := by rw [busRead, h]

theorem busRead_bootLock (h : route s a = .bootLock) : busRead s a = .draw := by rw [busRead, h]

theorem busRead_unmapped (h : route s a = .unmapped) : busRead s a = .outOfBounds := by rw [busRead, h]

theorem busRead_eq_of_cellOf_eq (h : cellOf b = cellOf a) : busRead s b = busRead s a := by
  unfold busRead
  rw [route_eq_of_cellOf_eq h]

end

/-! ## What a write does, by target -/

section
variable {s : State} {a b : Word} (v : Byte)

/-- The images take a write as `ROM_WRITE` says (20_memory.md R54). -/
theorem busWrite_low (h : a.toNat < 0x8000) :
    busWrite s a v = if s.params.romWrite = .ignore then some s else none := by
  unfold busWrite
  rcases route_low s h with ⟨n, hr⟩ | ⟨n, hr⟩ <;> rw [hr] <;> cases s.params.romWrite <;> rfl

theorem busWrite_ram {k : Nat} (h : route s a = .ram k) :
    busWrite s a v = some { s with ram := s.ram.write k v } := by rw [busWrite, h]

theorem busWrite_ifr (h : route s a = .ifr) : busWrite s a v = some { s with ifr := v } := by rw [busWrite, h]

theorem busWrite_ier (h : route s a = .ier) : busWrite s a v = some { s with ier := v } := by rw [busWrite, h]

theorem busWrite_scy (h : route s a = .scy) : busWrite s a v = some { s with scy := v } := by rw [busWrite, h]

theorem busWrite_scx (h : route s a = .scx) : busWrite s a v = some { s with scx := v } := by rw [busWrite, h]

theorem busWrite_ly (h : route s a = .ly) : busWrite s a v = some s := by rw [busWrite, h]

theorem busWrite_stub (h : route s a = .stub) : busWrite s a v = some s := by rw [busWrite, h]

theorem busWrite_bootLock (h : route s a = .bootLock) :
    busWrite s a v = some (if v.getLsbD 0 then { s with bootLocked := true } else s) := by rw [busWrite, h]

theorem busWrite_unmapped (h : route s a = .unmapped) : busWrite s a v = none := by rw [busWrite, h]

theorem busWrite_eq_of_cellOf_eq (h : cellOf b = cellOf a) : busWrite s b v = busWrite s a v := by
  unfold busWrite
  rw [route_eq_of_cellOf_eq h]

/-- A write that answers a state is accepted, and leaves that state. -/
theorem writable_and_afterWrite {t : State} (h : busWrite s a v = some t) :
    writable s a = true ∧ afterWrite s a v = t := by
  rw [← busWrite_isSome s a v, afterWrite, h]
  exact ⟨rfl, rfl⟩

end

/-! ## The maps -/

/-- Settles O25: the region of each clause answers the address. -/
theorem readMap : Obligations.ReadMap := by
  intro s a
  refine ⟨fun h hlock => busRead_boot (route_overlay h hlock), fun h hlock => busRead_rom (route_cartridge h hlock),
    fun h h' => busRead_ram (route_readWrite ?_), fun h h' => (busRead_eq_of_cellOf_eq (cellOf_sub_of_echo h h')).symm,
    fun h h' => busRead_unmapped (route_hole h h'), fun h h' => busRead_ram (route_readWrite ?_), ?_⟩
  · simp [ramKey, h, h']
  · simp [ramKey, h, h']
  · rintro rfl
    exact busRead_ier (route_interruptEnable s)

/-- Settles O26: an unlisted address is unmapped, and with the default set each register has its own target. -/
theorem ioReadMap : Obligations.IoReadMap := by
  intro s
  refine ⟨busRead_ifr (route_interruptFlag s), fun a h h' hifr hset => ?_, fun hp =>
    ⟨busRead_scy (route_default_scy hp), busRead_scx (route_default_scx hp), busRead_ly (route_default_ly hp),
      busRead_bootLock (route_default_bootLock hp), fun a h => ?_, fun a _ _ => inStubSet_default hp a.toNat⟩⟩
  · have hr := route_io_unlisted h h' hifr hset
    exact ⟨busRead_unmapped hr, fun v => busWrite_unmapped v hr⟩
  · have hr := route_default_stub hp (or_assoc.mp h.symm)
    exact ⟨busRead_stub hr, fun v => busWrite_stub v hr⟩

/-- Settles O27: the region of each clause takes the write. -/
theorem writeMap : Obligations.WriteMap := by
  intro s a v
  refine ⟨busWrite_low v, fun h => busWrite_ram v (route_readWrite (by simpa [ramKey] using h)),
    fun h h' => (busWrite_eq_of_cellOf_eq v (cellOf_sub_of_echo h h')).symm,
    fun h h' => busWrite_unmapped v (route_hole h h'), ?_, ?_,
    fun h h' hifr hset => busWrite_unmapped v (route_io_unlisted h h' hifr hset), fun hp => ⟨?_, ?_, ?_, ?_,
    fun h => busWrite_stub v (route_default_stub hp h), fun h => busWrite_unmapped v (route_default_unmapped hp h)⟩⟩
  · rintro rfl
    exact busWrite_ifr v (route_interruptFlag s)
  · rintro rfl
    exact busWrite_ier v (route_interruptEnable s)
  · rintro rfl
    exact busWrite_scy v (route_default_scy hp)
  · rintro rfl
    exact busWrite_scx v (route_default_scx hp)
  · rintro rfl
    exact busWrite_ly v (route_default_ly hp)
  · rintro rfl
    exact busWrite_bootLock v (route_default_bootLock hp)

/-! ## The byte read back -/

/-- The targets that keep the byte written to them. -/
def Target.keepsByte : Target → Bool
  | .ram _ | .ifr | .ier | .scy | .scx => true
  | .boot _ | .rom _ | .ly | .stub | .bootLock | .unmapped => false

section
variable {s : State} {a b : Word}

theorem writable_and_busRead_afterWrite {t : State} {x : BusByte} (v : Byte) (h : busWrite s a v = some t)
    (hread : busRead t b = x) : writable s a = true ∧ busRead (afterWrite s a v) b = x := by
  obtain ⟨hw, ht⟩ := writable_and_afterWrite v h
  exact ⟨hw, ht ▸ hread⟩

/-- A write to a target that keeps its byte is accepted, and every address of that target reads the byte. -/
theorem busRead_afterWrite_of_keepsByte (v : Byte) (hwf : s.ram.wf = true) (ha : (route s a).keepsByte = true)
    (hb : route s b = route s a) : writable s a = true ∧ busRead (afterWrite s a v) b = .byte v := by
  cases hr : route s a with
  | ram k =>
    have hroute : route { s with ram := s.ram.write k v } b = .ram k := hb.trans hr
    refine writable_and_busRead_afterWrite v (busWrite_ram v hr) ?_
    rw [busRead_ram hroute, Memory.read_write_self hwf]
  | ifr => exact writable_and_busRead_afterWrite v (busWrite_ifr v hr) (busRead_ifr (hb.trans hr))
  | ier => exact writable_and_busRead_afterWrite v (busWrite_ier v hr) (busRead_ier (hb.trans hr))
  | scy => exact writable_and_busRead_afterWrite v (busWrite_scy v hr) (busRead_scy (hb.trans hr))
  | scx => exact writable_and_busRead_afterWrite v (busWrite_scx v hr) (busRead_scx (hb.trans hr))
  | _ => simp [hr, Target.keepsByte] at ha

/-- The read-write memory up to the echo's end keeps its bytes. -/
theorem route_keepsByte_of_memory (h : 0x8000 ≤ a.toNat) (h' : a.toNat < 0xFE00) : (route s a).keepsByte = true := by
  by_cases he : a.toNat < 0xE000
  · rw [route_readWrite (by simp [ramKey, h, he])]
    rfl
  · rw [route_echo (by omega) h']
    rfl

/-- So do the high page's bytes and the interrupt-enable storage after them. -/
theorem route_keepsByte_of_highPage (h : 0xFF80 ≤ a.toNat) : (route s a).keepsByte = true := by
  by_cases he : a.toNat < 0xFFFF
  · rw [route_readWrite (by simp [ramKey, h, he])]
    rfl
  · obtain rfl : a = 0xFFFF := by bv_omega
    rfl

end

/-- Settles O28: the address has a target that keeps its byte, and an alias has the same target. -/
theorem readAfterWrite : Obligations.ReadAfterWrite := by
  intro s a b v hwf hcell ha
  refine busRead_afterWrite_of_keepsByte v hwf ?_ (route_eq_of_cellOf_eq hcell)
  rcases ha with ⟨h, h'⟩ | h | rfl | ⟨hp, rfl | rfl⟩
  · exact route_keepsByte_of_memory h h'
  · exact route_keepsByte_of_highPage h
  · rfl
  · rw [route_default_scy hp]
    rfl
  · rw [route_default_scx hp]
    rfl

/-! ## The boot lock -/

/-- Settles O30: the register's one write, by its bit 0; the lock it sets leaves the overlay's range to ROM. -/
theorem bootLockWrite : Obligations.BootLockWrite := by
  intro s v hp
  obtain ⟨hw, ht⟩ := writable_and_afterWrite v (busWrite_bootLock v (route_default_bootLock hp))
  have hset : v.getLsbD 0 = true → afterWrite s 0xFF50 v = { s with bootLocked := true } := fun hv => by
    rw [ht, if_pos hv]
  have hclear : v.getLsbD 0 = false → afterWrite s 0xFF50 v = s := fun hv => by
    rw [ht, if_neg (hv ▸ Bool.false_ne_true)]
  refine ⟨hw, hset, hclear, fun hlock => ?_, fun hv a ha hlen => ?_⟩
  · cases hv : v.getLsbD 0 with
    | false => exact hclear hv
    | true =>
      have hsame : { s with bootLocked := true } = s := by rw [← hlock]
      exact (hset hv).trans hsame
  · rw [hset hv, busRead_rom (route_cartridge (by omega) fun _ => rfl)]
    exact if_pos hlen

end Sys2Proof.Machine

/-! PROOFS. Decoding the encoding of an instruction (O1). -/

namespace Sys2Proof

/-- A word operand survives the two bytes of its encoding, low byte first (30_encoding.md R91). -/
theorem decode_imm16 {op : Byte} {k : Word → Instr} (h : decodeOpcode op = .imm16 k) (w : Word) (rest : List Byte) :
    decode ([op, loByte w, hiByte w] ++ rest) = .instr (k w) rest := by
  simp [decode, h]

/-- Settles O1: a word operand is split and joined again; every other encoding holds the opcode and the operand as they
are, so the decoder computes on it; 0xCB by itself is not well-formed (46_system.md R270). -/
theorem decodeOfEncode : Obligations.DecodeOfEncode := by
  intro i rest hwf
  cases i with
  | prefix_CB => cases hwf
  | ld_BC_d16 w | ld_DE_d16 w | ld_HL_d16 w | ld_SP_d16 w | ld_atA16_SP w | ld_atA16_A w | ld_A_atA16 w
  | jp_a16 w | jp_NZ_a16 w | jp_Z_a16 w | jp_NC_a16 w | jp_C_a16 w
  | call_a16 w | call_NZ_a16 w | call_Z_a16 w | call_NC_a16 w | call_C_a16 w => exact decode_imm16 rfl w rest
  | _ => rfl

end Sys2Proof

/-! PROOFS. The execution loop: where a fetch exits (O6), an instruction's normal end (O9), and the instruction a step
runs (O4). -/

namespace Sys2Proof

/-- Bytes that are one instruction and nothing more are as many as their first byte calls for; 0xCB by itself, which is
no instruction, calls for one more (46_system.md R270). -/
theorem fetchLen_of_decode {op : Byte} {rest : List Byte} {i : Instr} (h : decode (op :: rest) = .instr i [])
    (hwf : i.wellFormed = true) : fetchLen op = rest.length + 1 := by
  unfold decode at h
  unfold fetchLen
  cases hshape : decodeOpcode op with
  | op k =>
    obtain ⟨-, rfl⟩ : k = i ∧ rest = [] := by simpa [hshape] using h
    rfl
  | imm8 k =>
    match rest with
    | [] => simp [hshape] at h
    | n :: rest =>
      obtain ⟨-, rfl⟩ : k n = i ∧ rest = [] := by simpa [hshape] using h
      rfl
  | imm16 k =>
    match rest with
    | [] | [_] => simp [hshape] at h
    | lo :: hi :: rest =>
      obtain ⟨-, rfl⟩ : k (wordOf hi lo) = i ∧ rest = [] := by simpa [hshape] using h
      rfl
  | extended =>
    match rest with
    | [] =>
      obtain rfl : Instr.prefix_CB = i := by simpa [hshape] using h
      cases hwf
    | cb :: rest =>
      obtain ⟨-, rfl⟩ : decodeExtended cb = i ∧ rest = [] := by simpa [hshape] using h
      rfl

namespace Machine

/-! ## A turn taken off moves no byte of memory -/

@[simp] theorem takeTurn_pc (s : State) : (takeTurn s).pc = s.pc := by
  obtain ⟨l, n, h⟩ := takeTurn_eq s
  rw [h]

@[simp] theorem takeTurn_phase (s : State) : (takeTurn s).phase = s.phase := by
  obtain ⟨l, n, h⟩ := takeTurn_eq s
  rw [h]

@[simp] theorem takeTurn_params (s : State) : (takeTurn s).params = s.params := by
  obtain ⟨l, n, h⟩ := takeTurn_eq s
  rw [h]

@[simp] theorem readable_takeTurn (s : State) (a : Word) : readable (takeTurn s) a = readable s a := by
  obtain ⟨l, n, h⟩ := takeTurn_eq s
  rw [h]
  rfl

@[simp] theorem valueAt_takeTurn (s : State) (a : Word) : valueAt (takeTurn s) a = valueAt s a := by
  obtain ⟨l, n, h⟩ := takeTurn_eq s
  rw [h]
  rfl

/-! ## Reading an instruction's bytes -/

theorem readBytes_exit_first {s : State} {a : Word} (n : Nat) (h : readable s a = false) :
    readBytes (n + 1) a s = .exit (.outOfBounds a .read) s := by
  rw [readBytes, memRead_of_not_readable h, Access.bind_exit]

theorem readBytes_exit_second {s : State} {a : Word} (n : Nat) (h : readable s a = true)
    (h' : readable s (a + 1) = false) :
    readBytes (n + 2) a s = .exit (.outOfBounds (a + 1) .read) (afterRead s a) := by
  rw [readBytes, memRead_of_readable h, Access.bind_done,
    readBytes_exit_first n (by rwa [readable_afterRead]), Access.bind_exit]

/-- Bytes read one after the other: the first one, then the others from the next address on. -/
theorem of_readBytes_cons_done {n : Nat} {a : Word} {s u : State} {v : Byte} {vs : List Byte}
    (h : readBytes (n + 1) a s = .done (v :: vs) u) :
    ∃ t, memRead s a = .done v t ∧ readBytes n (a + 1) t = .done vs u := by
  obtain ⟨v', t, hv, hrest⟩ := Access.of_bind_done h
  obtain ⟨vs', u', hvs, hcons⟩ := Access.of_bind_done hrest
  cases hcons
  exact ⟨t, hv, hvs⟩

/-! ## What a fetch comes to (40_execution_loop.md R112, R113, R119, R124) -/

section
variable {s t u : State} {op : Byte} {reason : ExitReason}

theorem fetch_of_memRead_exit (h : memRead s s.pc = .exit reason t) : fetch s = .exit reason t := by
  rw [fetch, h, Access.bind_exit]

theorem fetch_of_unimplExtra (h : memRead s s.pc = .done op t) (hop : op ∈ t.params.unimplExtra) :
    fetch s = .exit (.unimplemented op) t := by
  rw [fetch, h, Access.bind_done, if_pos (by simpa using hop)]

theorem fetch_of_readBytes_exit (h : memRead s s.pc = .done op t) (hop : op ∉ t.params.unimplExtra)
    (hrest : readBytes (fetchLen op - 1) (s.pc + 1) t = .exit reason u) : fetch s = .exit reason u := by
  rw [fetch, h, Access.bind_done, if_neg (by simpa using hop), hrest, Access.bind_exit]

theorem fetch_of_decode {rest : List Byte} {i : Instr} (h : memRead s s.pc = .done op t)
    (hop : op ∉ t.params.unimplExtra) (hrest : readBytes (fetchLen op - 1) (s.pc + 1) t = .done rest u)
    (hdec : decode (op :: rest) = .instr i []) : fetch s = .done i u := by
  rw [fetch, h, Access.bind_done, if_neg (by simpa using hop), hrest, Access.bind_done, hdec]

end

/-! ## The step at which the producer runs an instruction -/

section
variable {s : State} (hrun : s.status = .running) (hphase : s.phase = .running) (hagent : nextAgent s = .producer)
include hrun hphase hagent

theorem step_of_running : step s = instructionStep (takeTurn s) := by
  rw [step_of_producer (.inl hrun) hagent]
  simp [producerTurn, hrun, hphase]

/-- An exit that the fetch raises is the step's, at the instruction's address where its reason moves none
(40_execution_loop.md R117, R118). -/
theorem step_exitsWith_of_fetch {t : State} {reason : ExitReason} (hfetch : fetch (takeTurn s) = .exit reason t)
    (hpc : pcAtExit reason t = s.pc) : ExitsWith (step s) reason s.pc := by
  rw [step_of_running hrun hphase hagent, instructionStep, hfetch]
  exact ⟨raiseExit reason t, rfl, by rw [raiseExit_status, hpc]⟩

end

/-- Settles O6: the turn taken off moves no byte, so the step is its fetch's exit: at the opcode byte, at the opcode
itself, or at one of the bytes after it. -/
theorem fetchFaults : Obligations.FetchFaults := by
  intro s hrun hphase hagent
  have exits {t : State} {reason : ExitReason} := step_exitsWith_of_fetch (t := t) (reason := reason) hrun hphase hagent
  refine ⟨fun hfirst => ?_, fun hfirst => ?_⟩
  · have hop : memRead (takeTurn s) s.pc = .exit (.outOfBounds s.pc .read) (takeTurn s) :=
      memRead_of_not_readable (by simpa using hfirst)
    exact exits (fetch_of_memRead_exit (by rwa [takeTurn_pc])) (by simp)
  have hop : memRead (takeTurn s) (takeTurn s).pc = .done (valueAt s s.pc) (afterRead (takeTurn s) s.pc) := by
    rw [memRead_of_readable (by simpa using hfirst), takeTurn_pc, valueAt_takeTurn]
  refine ⟨fun hextra => ?_, fun hextra hlen => ⟨fun hsecond => ?_, fun hsecond hthree hthird => ?_⟩⟩
  · exact exits (fetch_of_unimplExtra hop (by simpa using hextra)) (by simp)
  · obtain ⟨n, hn⟩ : ∃ n, fetchLen (valueAt s s.pc) - 1 = n + 1 := ⟨fetchLen (valueAt s s.pc) - 2, by omega⟩
    have hrest := readBytes_exit_first (s := afterRead (takeTurn s) s.pc) n (by simpa using hsecond)
    exact exits (fetch_of_readBytes_exit hop (by simpa using hextra) (by rwa [hn, takeTurn_pc])) (by simp)
  · have hnext : s.pc + 2 = s.pc + 1 + 1 := by bv_omega
    rw [hnext] at hthird ⊢
    have hrest := readBytes_exit_second (s := afterRead (takeTurn s) s.pc) 0 (by simpa using hsecond)
      (by simpa using hthird)
    exact exits (fetch_of_readBytes_exit hop (by simpa using hextra) (by rwa [hthree, takeTurn_pc])) (by simp)

/-- Settles O9: pc goes on before the PPU's loop, which moves none of the rest and ends with no transition due. -/
theorem retireAdvancesPcAndPpu : Obligations.RetireAdvancesPcAndPpu := by
  intro len cyc s
  obtain ⟨c, m, l, b, p, hmoves⟩ := retire_moves len cyc s
  refine ⟨?_, rfl, ?_, fun hrun => ?_⟩
  · simp [hmoves, BitVec.toNat_add]
  · rw [hmoves]
  · have hsettled : ppuDue (retire len cyc s) = false := ppuRun_settles _
    simpa [ppuDue, hrun] using hsettled

/-- Settles O4: the bytes are as many as the opcode calls for, so the fetch reads exactly them. -/
theorem stepRunsDecodedInstruction : Obligations.StepRunsDecodedInstruction := by
  intro s t bytes i hrun hphase hagent hread hdec hwf hextra
  cases bytes with
  | nil => cases hdec
  | cons op rest =>
    obtain ⟨u, hop, hrest⟩ := of_readBytes_cons_done hread
    have hlen : fetchLen op - 1 = rest.length := by rw [fetchLen_of_decode hdec hwf, Nat.add_sub_cancel]
    have hallowed : op ∉ u.params.unimplExtra := by
      obtain ⟨n, rfl⟩ := of_memRead_done hop
      simpa using hextra
    have hfetch : fetch (takeTurn s) = .done i t :=
      fetch_of_decode (by rwa [takeTurn_pc]) hallowed (by rwa [hlen, takeTurn_pc]) hdec
    rw [step_of_running hrun hphase hagent, instructionStep, hfetch]

end Machine

end Sys2Proof

/-! PROOFS. Loads, stores and stack transfers: what each family of rows comes to where its accesses are answered, and
where one is not (O34 to O39). -/

namespace Sys2Proof.Machine

/-! ## An access, then the report (40_execution_loop.md R114 to R118) -/

section
variable {α : Type} {x : Access α} {s t : State}

theorem finish_bind_of_done {v : α} {len cyc : Nat} {g : α → State → State} (h : x = .done v t) :
    finish (x.bind fun v t => .done ⟨len, cyc⟩ (g v t)) = .next (retire len cyc (g v t)) := by
  rw [h, Access.bind_done, finish_done]

theorem faults_bind_of_exit {k : α → State → Access Report} {a : Word} {kind : AccessKind}
    (h : x = .exit (.outOfBounds a kind) t) (hpc : t.pc = s.pc) : Faults (finish (x.bind k)) s a kind := by
  rw [h, Access.bind_exit, finish_exit]
  exact ⟨_, rfl, by rw [raiseExit_status, pcAtExit_outOfBounds, hpc]⟩

end

/-! ## Where a word access exits: at its first byte that no region answers (20_memory.md R71, R72) -/

section
variable {s : State} {a : Word}

theorem memRead16_exit_first (h : readable s a = false) : memRead16 s a = .exit (.outOfBounds a .read) s := by
  rw [memRead16, memRead_of_not_readable h, Access.bind_exit]

theorem memRead16_exit_second (h : readable s a = true) (h' : readable s (a + 1) = false) :
    memRead16 s a = .exit (.outOfBounds (a + 1) .read) (afterRead s a) := by
  rw [memRead16, memRead_of_readable h, Access.bind_done,
    memRead_of_not_readable (by rwa [readable_afterRead]), Access.bind_exit]

theorem memWrite16_exit_first (w : Word) (h : writable s a = false) :
    memWrite16 s a w = .exit (.outOfBounds a .write) s := by
  rw [memWrite16, memWrite_of_not_writable _ h, Access.bind_exit]

theorem memWrite16_exit_second (w : Word) (h : writable s a = true) (h' : writable s (a + 1) = false) :
    memWrite16 s a w = .exit (.outOfBounds (a + 1) .write) (afterWrite s a (loByte w)) := by
  rw [memWrite16, memWrite_of_writable _ h, Access.bind_done,
    memWrite_of_not_writable _ (by rwa [writable_afterWrite])]

@[simp] theorem writable_setSp (s : State) (w a : Word) : writable (s.setSp w) a = writable s a :=
  writable_congr a rfl

theorem push16_exit_first (w : Word) (h : writable s (s.sp - 2) = false) :
    push16 s w = .exit (.outOfBounds (s.sp - 2) .write) (s.setSp (s.sp - 2)) :=
  memWrite16_exit_first w (by rwa [writable_setSp])

theorem push16_exit_second (w : Word) (h : writable s (s.sp - 2) = true) (h' : writable s (s.sp - 1) = false) :
    push16 s w =
      .exit (.outOfBounds (s.sp - 1) .write) (afterWrite (s.setSp (s.sp - 2)) (s.sp - 2) (loByte w)) := by
  have hnext : s.sp - 1 = s.sp - 2 + 1 := by bv_omega
  rw [hnext] at h' ⊢
  exact memWrite16_exit_second w (by rwa [writable_setSp]) (by rwa [writable_setSp])

theorem pop16_exit_first (h : readable s s.sp = false) : pop16 s = .exit (.outOfBounds s.sp .read) s := by
  rw [pop16, memRead16_exit_first h, Access.bind_exit]

theorem pop16_exit_second (h : readable s s.sp = true) (h' : readable s (s.sp + 1) = false) :
    pop16 s = .exit (.outOfBounds (s.sp + 1) .read) (afterRead s s.sp) := by
  rw [pop16, memRead16_exit_second h h', Access.bind_exit]

end

/-! ## Where an operand form exits: an operand that is not answered is the byte at HL -/

section
variable {s : State} {o d : Operand8}

theorem r8_eq_atHL {y : Fin 8} : r8 y = .atHL ↔ y = 6 := by
  revert y
  decide

@[simp] theorem srcAfter_pc (s : State) (o : Operand8) : (srcAfter s o).pc = s.pc := by
  cases o <;> simp [srcAfter]

@[simp] theorem srcAfter_hl (s : State) (o : Operand8) : (srcAfter s o).hl = s.hl := by
  cases o <;> simp [srcAfter]

@[simp] theorem writable_srcAfter (s : State) (o : Operand8) (a : Word) :
    writable (srcAfter s o) a = writable s a :=
  writable_congr a (srcAfter_params s o)

theorem loadLoc_exit (h : srcReadable s o = false) : loadLoc (loc s o) s = .exit (.outOfBounds s.hl .read) s := by
  cases o with
  | reg r => cases h
  | atHL => exact memRead_of_not_readable h

theorem storeLoc_loc (v : Byte) (h : dstWritable s d = true) :
    storeLoc (loc s d) v s = .done () (dstAfter s d v) := by
  cases d with
  | reg r => exact storeLoc_reg r v s
  | atHL => exact storeLoc_mem_of_writable v h

theorem storeLoc_exit (v : Byte) (h : dstWritable s d = false) :
    storeLoc (loc s d) v s = .exit (.outOfBounds s.hl .write) s := by
  cases d with
  | reg r => cases h
  | atHL => exact memWrite_of_not_writable v h

/-- The load of the source moves neither HL nor what is writable. -/
theorem loc_srcAfter (s : State) (d o : Operand8) : loc (srcAfter s o) d = loc s d := by
  cases d <;> simp [loc]

theorem dstWritable_srcAfter (s : State) (d o : Operand8) : dstWritable (srcAfter s o) d = dstWritable s d := by
  cases d <;> simp [dstWritable]

end

/-! ## The families of the loads -/

section
variable {s : State} {d o : Operand8}

theorem ldLoc_eq (ho : srcReadable s o = true) (hd : dstWritable s d = true) :
    ldLoc d o s =
      .next (retire 1 (byForm d (byForm o 1 2) 2) (dstAfter (srcAfter s o) d (srcValue s o))) := by
  rw [ldLoc, loadLoc_loc ho, Access.bind_done]
  refine finish_bind_of_done (v := ()) (g := fun _ u => u) ?_
  rw [← loc_srcAfter s d o]
  exact storeLoc_loc _ (by rwa [dstWritable_srcAfter])

theorem ldLoc_faults_read (h : srcReadable s o = false) : Faults (ldLoc d o s) s s.hl .read :=
  faults_bind_of_exit (loadLoc_exit h) rfl

theorem ldLoc_faults_write (ho : srcReadable s o = true) (hd : dstWritable s d = false) :
    Faults (ldLoc d o s) s s.hl .write := by
  rw [ldLoc, loadLoc_loc ho, Access.bind_done, ← loc_srcAfter s d o]
  refine faults_bind_of_exit (t := srcAfter s o) ?_ (srcAfter_pc s o)
  rw [storeLoc_exit _ (by rwa [dstWritable_srcAfter]), srcAfter_hl]

theorem ldLocImm_eq (n : Byte) (hd : dstWritable s d = true) :
    ldLocImm d n s = .next (retire 2 (byForm d 2 3) (dstAfter s d n)) :=
  finish_bind_of_done (g := fun _ u => u) (storeLoc_loc n hd)

theorem ldLocImm_faults (n : Byte) (hd : dstWritable s d = false) : Faults (ldLocImm d n s) s s.hl .write :=
  faults_bind_of_exit (storeLoc_exit n hd) rfl

/-- What a form whose one access is the load of a byte comes to. -/
theorem load_done_or_faults (len cyc : Nat) (addr : Word) (g : Byte → State → State) (s : State) :
    (readable s addr = true → finish ((memRead s addr).bind fun v t => .done ⟨len, cyc⟩ (g v t)) =
      .next (retire len cyc (g (valueAt s addr) (afterRead s addr)))) ∧
    (readable s addr = false →
      Faults (finish ((memRead s addr).bind fun v t => .done ⟨len, cyc⟩ (g v t))) s addr .read) :=
  ⟨fun h => finish_bind_of_done (memRead_of_readable h),
    fun h => faults_bind_of_exit (memRead_of_not_readable h) rfl⟩

/-- What a form whose one access is the store of a byte comes to. -/
theorem store_done_or_faults (len cyc : Nat) (addr : Word) (v : Byte) (g : State → State) (s : State) :
    (writable s addr = true → finish ((memWrite s addr v).bind fun _ t => .done ⟨len, cyc⟩ (g t)) =
      .next (retire len cyc (g (afterWrite s addr v)))) ∧
    (writable s addr = false →
      Faults (finish ((memWrite s addr v).bind fun _ t => .done ⟨len, cyc⟩ (g t))) s addr .write) :=
  ⟨fun h => finish_bind_of_done (g := fun _ t => g t) (memWrite_of_writable v h),
    fun h => faults_bind_of_exit (memWrite_of_not_writable v h) rfl⟩

theorem ldADirect_done_or_faults (len cyc : Nat) (addr : Word) (s : State) :
    (readable s addr = true →
      ldADirect len cyc addr s = .next (retire len cyc { afterRead s addr with a := valueAt s addr })) ∧
    (readable s addr = false → Faults (ldADirect len cyc addr s) s addr .read) :=
  load_done_or_faults len cyc addr (fun v t => t.setR8 .a v) s

theorem ldAHLStep_done_or_faults (step : Word) (s : State) :
    (readable s s.hl = true → ldAHLStep step s =
      .next (retire 1 2 (({ afterRead s s.hl with a := valueAt s s.hl } : State).setHl (s.hl + step)))) ∧
    (readable s s.hl = false → Faults (ldAHLStep step s) s s.hl .read) :=
  load_done_or_faults 1 2 s.hl (fun v t => (t.setR8 .a v).setHl (s.hl + step)) s

theorem ldDirectA_done_or_faults (len cyc : Nat) (addr : Word) (s : State) :
    (writable s addr = true → ldDirectA len cyc addr s = .next (retire len cyc (afterWrite s addr s.a))) ∧
    (writable s addr = false → Faults (ldDirectA len cyc addr s) s addr .write) :=
  store_done_or_faults len cyc addr s.a id s

theorem ldHLAStep_done_or_faults (step : Word) (s : State) :
    (writable s s.hl = true →
      ldHLAStep step s = .next (retire 1 2 ((afterWrite s s.hl s.a).setHl (s.hl + step)))) ∧
    (writable s s.hl = false → Faults (ldHLAStep step s) s s.hl .write) :=
  store_done_or_faults 1 2 s.hl s.a (fun t => t.setHl (s.hl + step)) s

/-- The high-page address as a number (30_encoding.md R99). -/
theorem highPage_eq (n : Byte) : highPage n = BitVec.ofNat 16 (0xFF00 + n.toNat) := by
  unfold highPage
  bv_omega

end

/-! ## The loads (41_loads.md) -/

/-- The opcode byte 01yyyzzz; HALT holds the slot of y = z = 6 (30_encoding.md R100). -/
theorem encode_instrLd (y z : Fin 8) :
    encode (instrLd (r8 y) (r8 z)) = [BitVec.ofNat 8 (0x40 + 8 * y.val + z.val)] := by
  revert y z
  decide

/-- Settles O34: the rows run one operation; a destination that no region answers is the byte at HL, so the source is
a register and its load goes on. -/
theorem loadRegisters : Obligations.LoadRegisters := by
  intro s y z hyz i
  have hform : ¬ (r8 y = .atHL ∧ r8 z = .atHL) := by rwa [r8_eq_atHL, r8_eq_atHL]
  have hexec : exec i s = ldLoc (r8 y) (r8 z) s := exec_instrLd hform s
  have hcyc : byForm (r8 y) (byForm (r8 z) 1 2) 2 = if y = 6 ∨ z = 6 then 2 else 1 := by
    rw [byForm_r8, byForm_r8]
    by_cases hy : y = 6 <;> simp [hy]
  refine ⟨encode_instrLd y z, fun hsrc hdst => ?_, fun hsrc => ?_, fun hdst => ?_⟩
  · rw [hexec, ldLoc_eq hsrc hdst, hcyc]
  · rw [hexec]
    exact ldLoc_faults_read hsrc
  · rw [hexec]
    refine ldLoc_faults_write ?_ hdst
    cases hy : r8 y with
    | reg r => rw [hy] at hdst; cases hdst
    | atHL => cases hz : r8 z with
      | reg q => rfl
      | atHL => exact absurd ⟨hy, hz⟩ hform

/-- Settles O35: the rows run one operation, whose one access is the store. -/
theorem loadImmediates : Obligations.LoadImmediates := by
  intro s y n i
  have hexec : exec i s = ldLocImm (r8 y) n s := exec_instrLdImm (r8 y) n s
  rw [hexec, ← byForm_r8]
  exact ⟨by fin_cases y <;> rfl, ldLocImm_eq n, ldLocImm_faults n⟩

/-- Settles O36: each row is a direct load or a stepping one. -/
theorem loadAccumulator : Obligations.LoadAccumulator := by
  intro s a n high loads
  have hhigh (b : Byte) : high b = highPage b := (highPage_eq b).symm
  have hback : s.hl - 1 = s.hl + (-1) := BitVec.sub_eq_add_neg s.hl 1
  rw [hhigh, hhigh, hback]
  exact ⟨ldADirect_done_or_faults 1 2 s.bc s, ldADirect_done_or_faults 1 2 s.de s, ldAHLStep_done_or_faults 1 s,
    ldAHLStep_done_or_faults (-1) s, ldADirect_done_or_faults 3 4 a s, ldADirect_done_or_faults 2 3 (highPage n) s,
    ldADirect_done_or_faults 1 2 (highPage s.c) s, rfl, rfl, rfl, rfl, rfl, rfl, rfl⟩

/-- Settles O37: each row is a direct store or a stepping one. -/
theorem storeAccumulator : Obligations.StoreAccumulator := by
  intro s a n high stores
  have hhigh (b : Byte) : high b = highPage b := (highPage_eq b).symm
  have hback : s.hl - 1 = s.hl + (-1) := BitVec.sub_eq_add_neg s.hl 1
  rw [hhigh, hhigh, hback]
  exact ⟨ldDirectA_done_or_faults 1 2 s.bc s, ldDirectA_done_or_faults 1 2 s.de s, ldHLAStep_done_or_faults 1 s,
    ldHLAStep_done_or_faults (-1) s, ldDirectA_done_or_faults 3 4 a s, ldDirectA_done_or_faults 2 3 (highPage n) s,
    ldDirectA_done_or_faults 1 2 (highPage s.c) s, rfl, rfl, rfl, rfl, rfl, rfl, rfl⟩

/-- Settles O38: only `LD (a16),SP` has an access, and it exits at the first byte that is not answered. -/
theorem loadWords : Obligations.LoadWords := by
  intro s p w
  exact ⟨by fin_cases p <;> rfl, exec_instrLdWord (r16 p) w s, rfl,
    fun h => finish_bind_of_done (g := fun _ t => t) (memWrite16_of_writable s.sp h),
    fun h => faults_bind_of_exit (memWrite16_exit_first s.sp h) rfl,
    fun h h' => faults_bind_of_exit (memWrite16_exit_second s.sp h h') (afterWrite_pc s w _), rfl, rfl⟩

/-- Settles O39: PUSH is a push and POP a pop, each with the two exits of its word access. -/
theorem pushAndPop : Obligations.PushAndPop := by
  intro s p down
  rw [exec_instrPush, exec_instrPop]
  exact ⟨by fin_cases p <;> rfl, fun h => finish_bind_of_done (g := fun _ t => t) (push16_eq _ h),
    fun h => faults_bind_of_exit (push16_exit_first _ h) rfl,
    fun h h' => faults_bind_of_exit (push16_exit_second _ h h') (afterWrite_pc _ _ _),
    by fin_cases p <;> rfl, fun h => finish_bind_of_done (g := fun v t => t.setStack (r16stk p) v) (pop16_eq h),
    fun h => faults_bind_of_exit (pop16_exit_first h) rfl,
    fun h h' => faults_bind_of_exit (pop16_exit_second h h') (afterRead_pc s s.sp)⟩

end Sys2Proof.Machine

/-! PROOFS. The stack: a word pushed and popped (O33), and the frame of the stack forms (O60). A store has its frame
once, whatever the address. -/

namespace Sys2Proof.Machine

/-! ## What a store leaves unchanged (20_memory.md R78) -/

@[simp] theorem afterWrite_sp (s : State) (a : Word) (v : Byte) : (afterWrite s a v).sp = s.sp := by
  rcases afterWrite_cases s a v with h | ⟨k, -, h⟩ | ⟨-, h⟩ | ⟨-, h⟩ | ⟨-, h⟩ | ⟨-, h⟩ | ⟨-, -, h⟩ <;> rw [h]

@[simp] theorem afterWrite_ime (s : State) (a : Word) (v : Byte) : (afterWrite s a v).ime = s.ime := by
  rcases afterWrite_cases s a v with h | ⟨k, -, h⟩ | ⟨-, h⟩ | ⟨-, h⟩ | ⟨-, h⟩ | ⟨-, h⟩ | ⟨-, -, h⟩ <;> rw [h]

@[simp] theorem getR8_afterWrite (s : State) (a : Word) (v : Byte) (r : Reg8) :
    (afterWrite s a v).getR8 r = s.getR8 r := by
  rcases afterWrite_cases s a v with h | ⟨k, -, h⟩ | ⟨-, h⟩ | ⟨-, h⟩ | ⟨-, h⟩ | ⟨-, h⟩ | ⟨-, -, h⟩ <;> rw [h] <;>
    cases r <;> rfl

/-- A special register changes only at a store to its own address. -/
theorem afterWrite_special (s : State) (a : Word) (v : Byte) :
    (a ≠ 0xFF50 → (afterWrite s a v).bootLocked = s.bootLocked) ∧ (a ≠ 0xFF0F → (afterWrite s a v).ifr = s.ifr) ∧
    (a ≠ 0xFFFF → (afterWrite s a v).ier = s.ier) ∧ (a ≠ 0xFF42 → (afterWrite s a v).scy = s.scy) ∧
    (a ≠ 0xFF43 → (afterWrite s a v).scx = s.scx) := by
  rcases afterWrite_cases s a v with h | ⟨k, -, h⟩ | ⟨hr, h⟩ | ⟨hr, h⟩ | ⟨hr, h⟩ | ⟨hr, h⟩ | ⟨hr, -, h⟩ <;> rw [h]
  · simp
  · simp
  · simp [route_ifr hr]
  · simp [route_ier hr]
  · simp [route_scy hr]
  · simp [route_scx hr]
  · simp [route_bootLock hr]

/-- A read depends on the images, the line, and the byte that the target of the address keeps. -/
theorem busRead_congr_of_route {s t : State} {a : Word} (hr : route t a = route s a) (hboot : t.boot = s.boot)
    (hrom : t.rom = s.rom) (hlen : t.romLen = s.romLen) (hline : t.line = s.line)
    (hram : ∀ k, route s a = .ram k → t.ram.read k = s.ram.read k) (hifr : route s a = .ifr → t.ifr = s.ifr)
    (hier : route s a = .ier → t.ier = s.ier) (hscy : route s a = .scy → t.scy = s.scy)
    (hscx : route s a = .scx → t.scx = s.scx) : busRead t a = busRead s a := by
  unfold busRead
  rw [hr, hboot, hrom, hlen, hline]
  split <;> rename_i ha
  case h_3 => rw [hram _ ha]
  case h_4 => rw [hifr ha]
  case h_5 => rw [hier ha]
  case h_6 => rw [hscy ha]
  case h_7 => rw [hscx ha]
  all_goals rfl

/-- From 0x100 on, what answers an address does not depend on the lock (20_memory.md R52). -/
theorem route_congr_of_not_overlay {s t : State} {a : Word} (h : ¬ a.toNat < 0x100) (hp : t.params = s.params) :
    route t a = route s a := by
  unfold route
  simp only [h, false_and, if_false, hp]

theorem route_afterWrite_of_not_touches {s : State} {a b : Word} (v : Byte) (h : ¬ touches a b) :
    route (afterWrite s a v) b = route s b := by
  by_cases hb : b.toNat < 0x100
  · have hne : a ≠ 0xFF50 := fun ha => h (.inr ⟨ha, hb⟩)
    exact route_congr b ((afterWrite_special s a v).1 hne) (afterWrite_params s a v)
  · exact route_congr_of_not_overlay hb (afterWrite_params s a v)

/-- A store to another key of the read-write memory, or to none. -/
theorem afterWrite_ram_read {s : State} {a : Word} {k : Nat} (v : Byte) (h : k ≠ cellOf a) :
    (afterWrite s a v).ram.read k = s.ram.read k := by
  rcases afterWrite_cases s a v with hs | ⟨j, hr, hs⟩ | ⟨-, hs⟩ | ⟨-, hs⟩ | ⟨-, hs⟩ | ⟨-, hs⟩ | ⟨-, -, hs⟩ <;> rw [hs]
  exact Memory.read_write_of_ne s.ram v ((route_ram hr).1 ▸ h)

/-- A read finds what it found before a store that touches neither its cell nor the overlay over it. -/
theorem busRead_afterWrite_of_not_touches {s : State} {a b : Word} (v : Byte) (h : ¬ touches a b) :
    busRead (afterWrite s a v) b = busRead s b := by
  have hne : a ≠ b := fun he => h (.inl (he ▸ rfl))
  have hkeeps := BodyKeeps.afterWrite s a v
  obtain ⟨-, hifr, hier, hscy, hscx⟩ := afterWrite_special s a v
  refine busRead_congr_of_route (route_afterWrite_of_not_touches v h) hkeeps.boot hkeeps.rom hkeeps.romLen hkeeps.line
    (fun k hr => ?_) (fun hr => hifr (route_ifr hr ▸ hne)) (fun hr => hier (route_ier hr ▸ hne))
    (fun hr => hscy (route_scy hr ▸ hne)) (fun hr => hscx (route_scx hr ▸ hne))
  obtain ⟨rfl, -⟩ := route_ram hr
  exact afterWrite_ram_read v fun he => h (.inl he)

/-! ## A word pushed and popped (41_loads.md R130, R131) -/

/-- The addresses of the read-write memory and of the interrupt-enable storage after it (20_memory.md R55 to R58, R69,
R70): the hypothesis of `PopAfterPush` on a stack byte. -/
def IsReadWrite (a : Word) : Prop := (0x8000 ≤ a.toNat ∧ a.toNat < 0xFE00) ∨ 0xFF80 ≤ a.toNat

section
variable {s : State} {a : Word}

theorem IsReadWrite.route_keepsByte (h : IsReadWrite a) (s : State) : (route s a).keepsByte = true := by
  rcases h with ⟨hlow, hhigh⟩ | hhigh
  · exact route_keepsByte_of_memory hlow hhigh
  · exact route_keepsByte_of_highPage hhigh

/-- Two addresses in a row have two cells: an echo address and its work-RAM address are 0x2000 apart (20_memory.md
R58). -/
theorem cellOf_ne_cellOf_succ (a : Word) : cellOf a ≠ cellOf (a + 1) := by
  have hlt := a.isLt
  have hnext : (a + 1).toNat = (a.toNat + 1) % 65536 := by simp [BitVec.toNat_add]
  unfold cellOf
  rw [hnext]
  split_ifs <;> omega

theorem IsReadWrite.not_touches_of_succ (h : IsReadWrite a) : ¬ touches (a + 1) a := by
  rintro (hcell | ⟨-, hlow⟩)
  · exact cellOf_ne_cellOf_succ a hcell
  · unfold IsReadWrite at h
    omega

theorem memRead_of_byte {v : Byte} (h : busRead s a = .byte v) : memRead s a = .done v s := by rw [memRead, h]

/-- A word stored in the read-write memory is the word loaded from there: the store of its high byte leaves the low
one. -/
theorem writable16_and_memRead16_afterWrite16 (w : Word) (hwf : s.ram.wf = true) (hlo : IsReadWrite a)
    (hhi : IsReadWrite (a + 1)) :
    writable16 s a = true ∧ memRead16 (afterWrite16 s a w) a = .done w (afterWrite16 s a w) := by
  obtain ⟨hwlo, hreadlo⟩ := busRead_afterWrite_of_keepsByte (loByte w) hwf (hlo.route_keepsByte s) rfl
  have hwf' : (afterWrite s a (loByte w)).ram.wf = true := (BodyKeeps.afterWrite s a _).ramWf hwf
  obtain ⟨hwhi, hreadhi⟩ := busRead_afterWrite_of_keepsByte (hiByte w) hwf' (hhi.route_keepsByte _) rfl
  have hreadhi' : busRead (afterWrite16 s a w) (a + 1) = .byte (hiByte w) := hreadhi
  have hreadlo' : busRead (afterWrite16 s a w) a = .byte (loByte w) :=
    (busRead_afterWrite_of_not_touches (hiByte w) hlo.not_touches_of_succ).trans hreadlo
  rw [writable_afterWrite] at hwhi
  refine ⟨by rw [writable16, hwlo, hwhi]; rfl, ?_⟩
  rw [memRead16, memRead_of_byte hreadlo', Access.bind_done, memRead_of_byte hreadhi', Access.bind_done,
    wordOf_hiByte_loByte]

theorem pop16_of_memRead16 {u : State} {w : Word} (hsp : s.sp = a) (h : memRead16 s a = .done w u) :
    pop16 s = .done w (u.setSp (u.sp + 2)) := by
  rw [pop16, hsp, h, Access.bind_done]

@[simp] theorem afterWrite16_sp (s : State) (a w : Word) : (afterWrite16 s a w).sp = s.sp := by
  simp [afterWrite16]

end

/-- Settles O33: the word stored below SP is the word loaded from the new SP. -/
theorem popAfterPush : Obligations.PopAfterPush := by
  intro s v hwf hstack
  have hnext : s.sp - 2 + 1 = s.sp - 1 := by bv_omega
  have hlo : IsReadWrite (s.sp - 2) := hstack _ (by simp)
  have hhi : IsReadWrite (s.sp - 2 + 1) := hnext ▸ hstack _ (by simp)
  obtain ⟨hw, hread⟩ := writable16_and_memRead16_afterWrite16 (s := s.setSp (s.sp - 2)) v hwf hlo hhi
  have hsp := afterWrite16_sp (s.setSp (s.sp - 2)) (s.sp - 2) v
  rw [State.setSp_sp] at hsp
  refine ⟨_, _, memWrite16_of_writable v hw, pop16_of_memRead16 hsp hread, ?_, hsp⟩
  rw [State.setSp_sp, hsp, BitVec.sub_add_cancel]

/-! ## The frame of a form that stores -/

section
variable {stored : List Word} {dest : List Reg8} {s t u : State}

/-- Where nothing is stored, no special register changes. -/
theorem StoresNothing.storesOnly (h : StoresNothing dest s t) : StoresOnly stored dest s t := by
  obtain ⟨hregs, ⟨hlock, hifr, hier, hscy, hscx⟩, hmem, hrun⟩ := h
  exact ⟨hregs, fun a ha _ => hmem a ha (by simp), hrun, fun _ => hlock, fun _ => hifr, fun _ => hier,
    fun _ => hscy, fun _ => hscx⟩

theorem StoresOnly.trans (h : StoresOnly stored dest s t) (k : StoresOnly stored dest t u) :
    StoresOnly stored dest s u := by
  obtain ⟨hregs, hmem, ⟨r1, r2, r3, r4, r5, r6, r7, r8, r9⟩, hlock, hifr, hier, hscy, hscx⟩ := h
  obtain ⟨kregs, kmem, ⟨q1, q2, q3, q4, q5, q6, q7, q8, q9⟩, klock, kifr, kier, kscy, kscx⟩ := k
  exact ⟨fun r hr => (kregs r hr).trans (hregs r hr), fun a ha hb => (kmem a ha hb).trans (hmem a ha hb),
    ⟨q1.trans r1, q2.trans r2, q3.trans r3, q4.trans r4, q5.trans r5, q6.trans r6, q7.trans r7, q8.trans r8,
      q9.trans r9⟩,
    fun n => (klock n).trans (hlock n), fun n => (kifr n).trans (hifr n), fun n => (kier n).trans (hier n),
    fun n => (kscy n).trans (hscy n), fun n => (kscx n).trans (hscx n)⟩

theorem StoresOnly.afterWrite (s : State) {a : Word} (v : Byte) (ha : a ∈ stored) :
    StoresOnly stored dest s (afterWrite s a v) := by
  have hk := BodyKeeps.afterWrite s a v
  have hne {b : Word} (hb : b ∉ stored) : a ≠ b := fun he => hb (he ▸ ha)
  obtain ⟨hlock, hifr, hier, hscy, hscx⟩ := afterWrite_special s a v
  exact ⟨fun r _ => getR8_afterWrite s a v r, fun _ _ hb => busRead_afterWrite_of_not_touches v (hb a ha),
    ⟨hk.boot, hk.rom, hk.romLen, hk.params, hk.consumed, hk.slot, hk.held, hk.turns, hk.turnCount⟩,
    fun n => hlock (hne n), fun n => hifr (hne n), fun n => hier (hne n), fun n => hscy (hne n),
    fun n => hscx (hne n)⟩

theorem StoresOnly.afterWrite16 (s : State) {a : Word} (w : Word) (ha : a ∈ stored) (ha' : a + 1 ∈ stored) :
    StoresOnly stored dest s (afterWrite16 s a w) :=
  (StoresOnly.afterWrite s (loByte w) ha).trans (.afterWrite _ (hiByte w) ha')

theorem StoresNothing.setSp (s : State) (w : Word) : StoresNothing dest s (s.setSp w) :=
  .cpu s _ _ _ _ _ _ _ _ _ _ _ _ fun q _ => State.getR8_setSp s q w

theorem StoresNothing.setPc (s : State) (w : Word) : StoresNothing dest s (s.setPc w) :=
  .cpu s _ _ _ _ _ _ _ _ _ _ _ _ fun q _ => State.getR8_setPc s q w

theorem StoresNothing.setIme (s : State) (v : Bool) : StoresNothing dest s (s.setIme v) :=
  .cpu s _ _ _ _ _ _ _ _ _ _ _ _ fun q _ => State.getR8_setIme s q v

end

/-! ## The frame of a push (41_loads.md R130) -/

/-- The two bytes below SP are stored, SP goes down by 2, and no register, flag or IME is written. -/
def PushFrame (s t : State) : Prop :=
  StoresOnly [s.sp - 2, s.sp - 1] [] s t ∧ t.sp = s.sp - 2 ∧ t.f = s.f ∧ t.ime = s.ime

section
variable {s t : State}

theorem of_push16_done {w : Word} (h : push16 s w = .done () t) :
    t = afterWrite16 (s.setSp (s.sp - 2)) (s.sp - 2) w := by
  obtain ⟨_, u, hlo, hhi⟩ := Access.of_bind_done h
  rw [of_memWrite_done hhi, of_memWrite_done hlo]
  rfl

theorem push16_frame {w : Word} (h : push16 s w = .done () t) : PushFrame s t := by
  obtain rfl := of_push16_done h
  have hnext : s.sp - 2 + 1 = s.sp - 1 := by bv_omega
  have hstore : StoresOnly [s.sp - 2, s.sp - 1] [] s (afterWrite16 (s.setSp (s.sp - 2)) (s.sp - 2) w) :=
    (StoresNothing.setSp s _).storesOnly.trans (.afterWrite16 _ w (by simp) (hnext ▸ by simp))
  exact ⟨hstore, by simp, by simp [afterWrite16], by simp [afterWrite16]⟩

theorem PushFrame.setPc (h : PushFrame s t) (w : Word) : PushFrame s (t.setPc w) := by
  obtain ⟨hstore, hsp, hf, hime⟩ := h
  exact ⟨hstore.trans (StoresNothing.setPc t w).storesOnly, hsp, hf, hime⟩

theorem PushFrame.retire (h : PushFrame s t) (len cyc : Nat) : PushFrame s (retire len cyc t) := by
  obtain ⟨hstore, hsp, hf, hime⟩ := h
  exact ⟨hstore.trans (StoresNothing.retire len cyc t).storesOnly, by simpa using hsp, by simpa using hf,
    by simpa using hime⟩

/-- The frame of a form whose one access is a push. -/
theorem PushFrame.of_push {w : Word} {r : Report} {g : State → State}
    (h : RunsTo (finish ((push16 s w).bind fun _ u => .done r (g u))) t)
    (hg : ∀ u, PushFrame s u → PushFrame s (g u)) : PushFrame s t := by
  obtain ⟨r', u, hx, rfl⟩ := of_runsTo_finish h
  obtain ⟨_, v, hpush, hdone⟩ := Access.of_bind_done hx
  cases hdone
  exact (hg v (push16_frame hpush)).retire _ _

theorem pushReg_frame (r : StackReg) (h : RunsTo (pushReg r s) t) : PushFrame s t :=
  .of_push (g := id) h fun _ hu => hu

theorem callTo_frame {len cyc : Nat} {target : Word} (h : RunsTo (finish (callTo len cyc target s)) t) :
    PushFrame s t :=
  .of_push (g := fun u => u.setPc target) h fun _ hu => hu.setPc target

end

/-! ## The frame of a pop (41_loads.md R131): from the state with SP gone up by 2, no more is written than the pair, or
pc and IME -/

/-- The registers a pop into a pair writes; F is no 8-bit register. -/
def stackDest : StackReg → List Reg8
  | .bc => [.b, .c]
  | .de => [.d, .e]
  | .hl => [.h, .l]
  | .af => [.a]

theorem State.getR8_setStack_of_notMem (s : State) {r : StackReg} {q : Reg8} (w : Word) (h : q ∉ stackDest r) :
    (s.setStack r w).getR8 q = s.getR8 q := by
  cases r <;> cases q <;> simp [stackDest] at h <;> rfl

theorem State.setStack_f_of_ne_af (s : State) {r : StackReg} (w : Word) (h : r ≠ .af) : (s.setStack r w).f = s.f := by
  cases r with
  | af => exact absurd rfl h
  | _ => rfl

theorem StoresNothing.setStack (s : State) (r : StackReg) (w : Word) :
    StoresNothing (stackDest r) s (s.setStack r w) := by
  have hregs : KeepsRegs (stackDest r) s (s.setStack r w) := fun q hq => s.getR8_setStack_of_notMem w hq
  cases r <;> exact .cpu s _ _ _ _ _ _ _ _ _ _ _ _ hregs

section
variable {dest : List Reg8} {kept : Flags → Flags → Prop} {s t base : State}

theorem ByteFrame.setPc (h : ByteFrame dest kept s t) (w : Word) : ByteFrame dest kept s (t.setPc w) := by
  obtain ⟨hstore, hsp, hime, hf⟩ := h
  exact ⟨hstore.trans (.setPc t w), hsp, hime, hf⟩

theorem of_pop16_done {v : Word} (h : pop16 s = .done v t) :
    ∃ n, t = { s.setSp (s.sp + 2) with drawCount := n } := by
  obtain ⟨w, u, hread, hdone⟩ := Access.of_bind_done h
  obtain ⟨lo, u₁, hlo, hrest⟩ := Access.of_bind_done hread
  obtain ⟨hi, u₂, hhi, hword⟩ := Access.of_bind_done hrest
  obtain ⟨n₁, rfl⟩ := of_memRead_done hlo
  obtain ⟨n, rfl⟩ := of_memRead_done hhi
  cases hword
  cases hdone
  exact ⟨n, rfl⟩

/-- The frame of a form whose one access is a pop: it is the frame of what follows, from any popped word and any draw
count. -/
theorem ByteFrame.of_pop {r : Report} {g : Word → State → State}
    (h : RunsTo (finish ((pop16 s).bind fun v u => .done r (g v u))) t)
    (hg : ∀ v n, ByteFrame dest kept base (g v { s.setSp (s.sp + 2) with drawCount := n })) :
    ByteFrame dest kept base t := by
  obtain ⟨r', u, hx, rfl⟩ := of_runsTo_finish h
  obtain ⟨v, w, hpop, hdone⟩ := Access.of_bind_done hx
  obtain ⟨n, rfl⟩ := of_pop16_done hpop
  cases hdone
  exact (hg v n).retire _ _

theorem popReg_frame (r : StackReg) (h : RunsTo (popReg r s) t) :
    ByteFrame (stackDest r) (fun f g => r ≠ .af → g = f) (s.setSp (s.sp + 2)) t :=
  .of_pop (g := fun v u => u.setStack r v) h fun v n =>
    ⟨(StoresNothing.drawn _ n).trans (.setStack _ r v), by simp, by simp, State.setStack_f_of_ne_af _ v⟩

theorem retWith_frame {cyc : Nat} (h : RunsTo (finish (retWith cyc s)) t) :
    ByteFrame [] AllFlags (s.setSp (s.sp + 2)) t :=
  .of_pop (g := fun v u => u.setPc v) h fun v n => (ByteFrame.drawn _ n).setPc v

theorem Access.bind_assoc {α β γ : Type} (x : Access α) (k : α → State → Access β) (m : β → State → Access γ) :
    (x.bind k).bind m = x.bind fun v t => (k v t).bind m := by
  cases x <;> rfl

theorem reti_frame (h : RunsTo (reti s) t) : ByteFrame [] AllFlags ((s.setSp (s.sp + 2)).setIme true) t := by
  rw [reti, retWith, Access.bind_assoc] at h
  exact .of_pop (g := fun v u => (u.setPc v).setIme true) h fun v n =>
    (ByteFrame.drawn ((s.setSp (s.sp + 2)).setIme true) n).setPc v

end

/-! ## The stack forms -/

/-- The condition by its index (45_control_transfer.md R245). -/
theorem condMet_cc (i : Fin 4) (f : Flags) : condMet (cc i) f = true ↔ condHolds i f := by
  fin_cases i <;> simp [condMet, cc, condHolds]

/-- Settles O60: each taken form is one push or one pop and a write of pc, and a form not taken has no access. -/
theorem frameOfStackForms : Obligations.FrameOfStackForms := by
  intro s t r a i y pair pushes pops
  have hpair : pair = stackDest r := by cases r <;> rfl
  have hnot (h : ¬ condHolds i s.f) : condMet (cc i) s.f ≠ true := fun hc => h ((condMet_cc i s.f).mp hc)
  have hmoved {dest : List Reg8} : StoresNothing dest s (s.setSp (s.sp + 2)) := .setSp s _
  refine ⟨fun h => ?_, callTo_frame, fun hc h => ?_, fun hc h => ?_, fun h => ?_, fun h => ?_, fun h => ?_,
    fun h => ?_, fun hc h => ?_, fun hc h => ?_⟩
  · rw [exec_instrPush] at h
    exact pushReg_frame r h
  · rw [exec_instrCallCc, callCc, if_pos ((condMet_cc i s.f).mpr hc)] at h
    exact callTo_frame h
  · rw [exec_instrCallCc, callCc, if_neg (hnot hc)] at h
    obtain ⟨hstore, hsp, hime, hf⟩ := ByteFrame.of_done h (.refl s)
    exact ⟨hstore, hsp, hf, hime⟩
  · rw [exec_instrRst] at h
    exact callTo_frame h
  · rw [exec_instrPop] at h
    obtain ⟨hstore, hsp, hime, hf⟩ := popReg_frame r h
    rw [hpair]
    exact ⟨hmoved.trans hstore, hsp, hf, hime⟩
  · obtain ⟨hstore, hsp, hime, hf⟩ := retWith_frame h
    exact ⟨hmoved.trans hstore, hsp, hf, hime⟩
  · obtain ⟨hstore, hsp, -, hf⟩ := reti_frame h
    exact ⟨(hmoved.trans (.setIme _ true)).trans hstore, hsp, hf⟩
  · rw [exec_instrRetCc, retCc, if_pos ((condMet_cc i s.f).mpr hc)] at h
    obtain ⟨hstore, hsp, hime, hf⟩ := retWith_frame h
    exact ⟨hmoved.trans hstore, hsp, hf, hime⟩
  · rw [exec_instrRetCc, retCc, if_neg (hnot hc)] at h
    obtain ⟨hstore, hsp, hime, hf⟩ := ByteFrame.of_done h (.refl s)
    exact ⟨hstore, hsp, hf, hime⟩

end Sys2Proof.Machine

/-! PROOFS. 8-bit arithmetic and logic: ADD and ADC (O41), SUB, SBC and CP (O42), AND, XOR and OR (O43), INC and DEC
(O44). The results and flags are said once over natural numbers, and each family of rows is one operation. -/

namespace Sys2Proof.Machine

/-! ## Results and flags over natural numbers (42_alu8.md R162 to R164, R192, R194) -/

/-- The zero test of a result, as the condition on natural numbers that it comes to. -/
theorem beq_zero_eq_decide {r : Byte} {P : Prop} [Decidable P] (h : r = 0 ↔ P) : (r == 0) = decide P := by
  rw [Bool.beq_eq_decide_eq, decide_eq_decide]
  exact h

section
variable (p : HcPolicy) (f : Flags) (a b v : Byte)

theorem add8_eq : add8 p a b = (BitVec.ofNat 8 (a.toNat + b.toNat), addFlags p a b) := by
  have hr : a + b = BitVec.ofNat 8 (a.toNat + b.toNat) := by bv_omega
  have hz : (a + b == 0) = decide ((a.toNat + b.toNat) % 256 = 0) := beq_zero_eq_decide (by bv_omega)
  rw [add8, addFlags, hz, hr]

theorem sub8_eq : sub8 p a b = (BitVec.ofNat 8 (a.toNat + 256 - b.toNat), subFlags p a b) := by
  have hr : a - b = BitVec.ofNat 8 (a.toNat + 256 - b.toNat) := by bv_omega
  have hz : (a - b == 0) = decide (a.toNat = b.toNat) := beq_zero_eq_decide (by bv_omega)
  rw [sub8, subFlags, hz, hr]

theorem logic8_eq (h : Bool) (r : Byte) : logic8 h r = (r, bitwiseFlags h r) := by
  have hz : (r == 0) = decide (r.toNat = 0) := beq_zero_eq_decide (by bv_omega)
  rw [logic8, bitwiseFlags, hz]

theorem preAdd_eq_withCarry : preAdd f.c v = withCarry f v := by
  unfold preAdd withCarry carryByte
  cases f.c with
  | false => simp
  | true =>
    simp only [if_true, Bool.toNat_true]
    bv_omega

theorem inc8_eq : inc8 p f v =
    (BitVec.ofNat 8 (v.toNat + 1), ⟨decide (v.toNat = 255), false, hcInc8 p v, f.c⟩) := by
  have hr : v + 1 = BitVec.ofNat 8 (v.toNat + 1) := by bv_omega
  have hz : (v + 1 == 0) = decide (v.toNat = 255) := beq_zero_eq_decide (by bv_omega)
  rw [inc8, hz, hr]

theorem dec8_eq : dec8 p f v =
    (BitVec.ofNat 8 (v.toNat + 255), ⟨decide (v.toNat = 1), true, hcDec8 p v, f.c⟩) := by
  have hr : v - 1 = BitVec.ofNat 8 (v.toNat + 255) := by bv_omega
  have hz : (v - 1 == 0) = decide (v.toNat = 1) := beq_zero_eq_decide (by bv_omega)
  rw [dec8, hz, hr]

end

/-! ## The rows of an ALU operation -/

/-- The opcode byte 10yyyzzz (30_encoding.md R100). -/
theorem encode_instrAlu (y z : Fin 8) :
    encode (instrAlu (alu y) (r8 z)) = [BitVec.ofNat 8 (0x80 + 8 * y.val + z.val)] := by
  revert y z
  decide

/-- The load of an operand uses up a draw at most. -/
theorem srcAfter_eq (s : State) (o : Operand8) : ∃ n, srcAfter s o = { s with drawCount := n } := by
  cases o with
  | reg r => exact ⟨s.drawCount, rfl⟩
  | atHL => exact afterRead_eq s s.hl

/-- What the three forms of an ALU operation come to, from what it does to a state that differs from the first one in
the draw count alone. -/
theorem exec_alu_forms {op : AluOp} {s : State} {out : State → Byte → State} (z : Fin 8) (n : Byte)
    (h : ∀ k v, aluApply op v { s with drawCount := k } = out { s with drawCount := k } v) :
    (srcReadable s (r8 z) = true → exec (instrAlu op (r8 z)) s =
      .next (retire 1 (if z = 6 then 2 else 1) (out (srcAfter s (r8 z)) (srcValue s (r8 z))))) ∧
    (srcReadable s (r8 z) = false → Faults (exec (instrAlu op (r8 z)) s) s s.hl .read) ∧
    exec (instrAluImm op n) s = .next (retire 2 2 (out s n)) := by
  rw [exec_instrAlu, exec_instrAluImm]
  refine ⟨fun hsrc => ?_, fun hsrc => faults_bind_of_exit (loadLoc_exit hsrc) rfl, ?_⟩
  · obtain ⟨k, hk⟩ := srcAfter_eq s (r8 z)
    rw [aluLoc_eq op hsrc, byForm_r8, hk, h]
  · rw [aluImm, finish_done]
    exact congrArg (fun t => Host.Outcome.next (retire 2 2 t)) (h s.drawCount n)

/-- Settles O41: both operations are `Add8`, ADC on the operand with the carry folded in. -/
theorem addAndAdc : Obligations.AddAndAdc := by
  intro s z n o cyc sum
  obtain ⟨hadd, haddFaults, haddImm⟩ := exec_alu_forms (op := .add) (s := s) (out := sum) z n fun k v => by
    simp only [aluApply, aluCompute, add8_eq]
    rfl
  obtain ⟨hadc, hadcFaults, hadcImm⟩ := exec_alu_forms (op := .adc) (s := s)
    (out := fun t v => sum t (withCarry s.f v)) z n fun k v => by
      simp only [aluApply, aluCompute, add8_eq, preAdd_eq_withCarry]
      rfl
  exact ⟨encode_instrAlu 0 z, encode_instrAlu 1 z, rfl, rfl, fun h => ⟨hadd h, hadc h⟩,
    fun h => ⟨haddFaults h, hadcFaults h⟩, haddImm, hadcImm⟩

/-- Settles O42: the three operations are `Sub8`, SBC on the operand with the carry folded in, CP without the write of
A. -/
theorem subSbcAndCp : Obligations.SubSbcAndCp := by
  intro s z n o cyc flags difference
  obtain ⟨hsub, hsubFaults, hsubImm⟩ := exec_alu_forms (op := .sub) (s := s) (out := difference) z n fun k v => by
    simp only [aluApply, aluCompute, sub8_eq]
    rfl
  obtain ⟨hsbc, hsbcFaults, hsbcImm⟩ := exec_alu_forms (op := .sbc) (s := s)
    (out := fun t v => difference t (withCarry s.f v)) z n fun k v => by
      simp only [aluApply, aluCompute, sub8_eq, preAdd_eq_withCarry]
      rfl
  obtain ⟨hcp, hcpFaults, hcpImm⟩ := exec_alu_forms (op := .cp) (s := s) (out := flags) z n fun k v => by
    simp only [aluApply, aluCompute, sub8_eq]
    rfl
  exact ⟨encode_instrAlu 2 z, encode_instrAlu 3 z, encode_instrAlu 7 z, rfl, rfl, rfl,
    fun h => ⟨hsub h, hsbc h, hcp h⟩, fun h => ⟨hsubFaults h, hsbcFaults h, hcpFaults h⟩, hsubImm, hsbcImm, hcpImm⟩

/-- Settles O43: each operation is a bitwise result with the flags of one. -/
theorem bitwiseOperations : Obligations.BitwiseOperations := by
  intro s z n o cyc result
  obtain ⟨hand, handFaults, handImm⟩ := exec_alu_forms (op := .and) (s := s)
    (out := fun t v => result true t (s.a &&& v)) z n fun k v => by
      simp only [aluApply, aluCompute, logic8_eq]
      rfl
  obtain ⟨hxor, hxorFaults, hxorImm⟩ := exec_alu_forms (op := .xor) (s := s)
    (out := fun t v => result false t (s.a ^^^ v)) z n fun k v => by
      simp only [aluApply, aluCompute, logic8_eq]
      rfl
  obtain ⟨hor, horFaults, horImm⟩ := exec_alu_forms (op := .or) (s := s)
    (out := fun t v => result false t (s.a ||| v)) z n fun k v => by
      simp only [aluApply, aluCompute, logic8_eq]
      rfl
  exact ⟨encode_instrAlu 4 z, encode_instrAlu 5 z, encode_instrAlu 6 z, rfl, rfl, rfl,
    fun h => ⟨hand h, hxor h, hor h⟩, fun h => ⟨handFaults h, hxorFaults h, horFaults h⟩, handImm, hxorImm, horImm⟩

/-! ## An operand read and written over -/

/-- What a form comes to that reads its operand once and writes it once: the report, the exit of the read, or the exit
of the write. -/
theorem modify_done_or_faults (len cyc : Nat) (r : Byte → State → Byte) (g : Byte → State → State → State) (s : State)
    (o : Operand8) :
    let x : Host.Outcome State Fault Refusal := finish <| (loadLoc (loc s o) s).bind fun v t =>
      (storeLoc (loc s o) (r v t) t).bind fun _ u => .done ⟨len, cyc⟩ (g v t u)
    let v := srcValue s o
    let t := srcAfter s o
    (srcReadable s o = true → dstWritable s o = true → x = .next (retire len cyc (g v t (dstAfter t o (r v t))))) ∧
    (srcReadable s o = false → Faults x s s.hl .read) ∧
    (srcReadable s o = true → dstWritable s o = false → Faults x s s.hl .write) := by
  intro x v t
  have hloaded (h : srcReadable s o = true) : x = finish ((storeLoc (loc s o) (r v t) t).bind fun _ u =>
      .done ⟨len, cyc⟩ (g v t u)) := by
    simp only [x, loadLoc_loc h, Access.bind_done]
    rfl
  refine ⟨fun hsrc hdst => ?_, fun hsrc => faults_bind_of_exit (loadLoc_exit hsrc) rfl, fun hsrc hdst => ?_⟩
  · rw [hloaded hsrc]
    exact finish_bind_of_done (g := fun _ u => g v t u) (storeLoc_srcAfter (r v t) hdst)
  · rw [hloaded hsrc, ← loc_srcAfter s o o]
    refine faults_bind_of_exit (t := t) ?_ (srcAfter_pc s o)
    rw [storeLoc_exit _ (by rwa [dstWritable_srcAfter]), srcAfter_hl]

/-- Settles O44: both operations read the operand and write it over, then the flags. -/
theorem incAndDec8 : Obligations.IncAndDec8 := by
  intro s y o v cyc
  have hcyc : byForm o 1 3 = cyc := byForm_r8 y 1 3
  obtain ⟨hinc, hincRead, hincWrite⟩ := modify_done_or_faults 1 (byForm o 1 3)
    (fun v t => (inc8 t.params.hcPolicy t.f v).1) (fun v t u => u.setF (inc8 t.params.hcPolicy t.f v).2) s o
  obtain ⟨hdec, hdecRead, hdecWrite⟩ := modify_done_or_faults 1 (byForm o 1 3)
    (fun v t => (dec8 t.params.hcPolicy t.f v).1) (fun v t u => u.setF (dec8 t.params.hcPolicy t.f v).2) s o
  rw [exec_instrInc8, exec_instrDec8, ← hcyc]
  refine ⟨by fin_cases y <;> rfl, by fin_cases y <;> rfl,
    fun hsrc hdst => ⟨(hinc hsrc hdst).trans ?_, (hdec hsrc hdst).trans ?_⟩,
    fun hsrc => ⟨hincRead hsrc, hdecRead hsrc⟩, fun hsrc hdst => ⟨hincWrite hsrc hdst, hdecWrite hsrc hdst⟩⟩
  · simp only [srcAfter_params, srcAfter_f, inc8_eq]
    rfl
  · simp only [srcAfter_params, srcAfter_f, dec8_eq]
    rfl

end Sys2Proof.Machine

/-! PROOFS. The frame of the forms that store (O59): a form stores to its bytes, whatever it loaded, and what follows
the store is the frame of a form that stores nothing. -/

namespace Sys2Proof.Machine

/-! ## The frame of a form that stores -/

/-- No byte changes outside the listed ones, the listed registers alone may be written, SP and IME are kept, and the
flags stand as `kept` says. -/
def StoreFrame (stored : List Word) (dest : List Reg8) (kept : Flags → Flags → Prop) (s t : State) : Prop :=
  StoresOnly stored dest s t ∧ t.sp = s.sp ∧ t.ime = s.ime ∧ kept s.f t.f

section
variable {stored : List Word} {dest : List Reg8} {kept kept' : Flags → Flags → Prop} {s t u : State}

/-- What follows a store stores nothing; of the flags, what stands at its end counts. -/
theorem StoreFrame.andThen (h : StoreFrame stored dest kept s t) (k : ByteFrame dest NoFlags t u)
    (hf : kept' s.f u.f) : StoreFrame stored dest kept' s u := by
  obtain ⟨hstore, hsp, hime, -⟩ := h
  obtain ⟨knothing, ksp, kime, -⟩ := k
  exact ⟨hstore.trans knothing.storesOnly, ksp.trans hsp, kime.trans hime, hf⟩

theorem StoreFrame.flags (h : StoreFrame stored dest kept s t) : kept s.f t.f := by
  obtain ⟨-, -, -, hf⟩ := h
  exact hf

theorem StoreFrame.setF {f : Flags} (h : StoreFrame stored dest kept s t) (hf : kept' s.f f) :
    StoreFrame stored dest kept' s (t.setF f) :=
  h.andThen ((ByteFrame.refl t).setF trivial) hf

theorem StoreFrame.setHl (h : StoreFrame stored dest kept s t) (w : Word) (hh : .h ∈ dest) (hl : .l ∈ dest) :
    StoreFrame stored dest kept s (t.setHl w) :=
  h.andThen ⟨.setHl t w hh hl, rfl, rfl, trivial⟩ h.flags

theorem StoreFrame.retire (h : StoreFrame stored dest kept s t) (len cyc : Nat) :
    StoreFrame stored dest kept s (retire len cyc t) :=
  h.andThen ⟨.retire len cyc t, retire_sp len cyc t, retire_ime len cyc t, trivial⟩
    (by simpa using h.flags)

/-- A store of a byte after a load that used up a draw at most. -/
theorem StoreFrame.afterWrite (s : State) (n : Nat) (a : Word) (v : Byte) :
    StoreFrame [a] dest AllFlags s (afterWrite { s with drawCount := n } a v) :=
  ⟨(StoresNothing.drawn s n).storesOnly.trans (.afterWrite _ v (by simp)), by simp, by simp, by simp [AllFlags]⟩

theorem StoreFrame.afterWrite16 (s : State) (a w : Word) :
    StoreFrame [a, a + 1] dest AllFlags s (afterWrite16 s a w) :=
  ⟨.afterWrite16 s w (by simp) (by simp), by simp, by simp [Machine.afterWrite16],
    by simp [AllFlags, Machine.afterWrite16]⟩

/-! ## The frame of a form by its accesses -/

theorem of_memWrite16_done {a w : Word} (h : memWrite16 s a w = .done () t) : t = afterWrite16 s a w := by
  obtain ⟨_, u, hlo, hhi⟩ := Access.of_bind_done h
  rw [of_memWrite_done hhi, of_memWrite_done hlo]
  rfl

/-- The frame of a form that has ended with its report is that of its body. -/
theorem StoreFrame.of_runsTo {x : Access Report} (h : RunsTo (finish x) t)
    (hx : ∀ r u, x = .done r u → StoreFrame stored dest kept s u) : StoreFrame stored dest kept s t := by
  obtain ⟨r, u, hdone, rfl⟩ := of_runsTo_finish h
  exact (hx r u hdone).retire _ _

/-- A form whose one access is the store of a byte. -/
theorem StoreFrame.of_store {a : Word} {v : Byte} {r : Report} {g : State → State}
    (h : RunsTo (finish ((memWrite s a v).bind fun _ u => .done r (g u))) t)
    (hg : ∀ u, StoreFrame [a] dest AllFlags s u → StoreFrame [a] dest kept s (g u)) : StoreFrame [a] dest kept s t := by
  refine .of_runsTo h fun r' u hx => ?_
  obtain ⟨_, w, hstore, hdone⟩ := Access.of_bind_done hx
  obtain rfl := of_memWrite_done hstore
  cases hdone
  exact hg _ (.afterWrite s s.drawCount a v)

/-- A form that loads a byte and stores one over it. -/
theorem StoreFrame.of_modify {a : Word} {r : Report} {q : Byte → State → Byte} {g : Byte → State → State → State}
    (h : RunsTo (finish ((memRead s a).bind fun v t => (memWrite t a (q v t)).bind fun _ u => .done r (g v t u))) t)
    (hg : ∀ v n u, StoreFrame [a] dest AllFlags s u → StoreFrame [a] dest kept s (g v { s with drawCount := n } u)) :
    StoreFrame [a] dest kept s t := by
  refine .of_runsTo h fun r' u hx => ?_
  obtain ⟨v, w, hload, hrest⟩ := Access.of_bind_done hx
  obtain ⟨n, rfl⟩ := of_memRead_done hload
  obtain ⟨_, y, hstore, hdone⟩ := Access.of_bind_done hrest
  obtain rfl := of_memWrite_done hstore
  cases hdone
  exact hg v n _ (.afterWrite s n a _)

end

/-! ## The frames of the families -/

section
variable {s t : State}

theorem ldLoc_atHL_frame (r : Reg8) (h : RunsTo (ldLoc .atHL (.reg r) s) t) : StoreFrame [s.hl] [] AllFlags s t :=
  .of_store (g := id) h fun _ hu => hu

theorem ldLocImm_atHL_frame (n : Byte) (h : RunsTo (ldLocImm .atHL n s) t) : StoreFrame [s.hl] [] AllFlags s t :=
  .of_store (g := id) h fun _ hu => hu

theorem ldDirectA_frame {len cyc : Nat} {a : Word} (h : RunsTo (ldDirectA len cyc a s) t) :
    StoreFrame [a] [] AllFlags s t :=
  .of_store (g := id) h fun _ hu => hu

theorem ldHLAStep_frame {w : Word} (h : RunsTo (ldHLAStep w s) t) : StoreFrame [s.hl] [.h, .l] AllFlags s t :=
  .of_store (g := fun u => u.setHl (s.hl + w)) h fun _ hu => hu.setHl _ (by simp) (by simp)

theorem ldWordSp_frame {a : Word} (h : RunsTo (ldWordSp a s) t) : StoreFrame [a, a + 1] [] AllFlags s t := by
  refine .of_runsTo h fun r u hx => ?_
  obtain ⟨_, w, hstore, hdone⟩ := Access.of_bind_done hx
  obtain rfl := of_memWrite16_done hstore
  cases hdone
  exact .afterWrite16 s a s.sp

theorem incLoc_atHL_frame (h : RunsTo (incLoc .atHL s) t) : StoreFrame [s.hl] [] (fun f g => g.c = f.c) s t :=
  .of_modify (q := fun v t => (inc8 t.params.hcPolicy t.f v).1)
    (g := fun v t u => u.setF (inc8 t.params.hcPolicy t.f v).2) h fun _ _ _ hu => hu.setF rfl

theorem decLoc_atHL_frame (h : RunsTo (decLoc .atHL s) t) : StoreFrame [s.hl] [] (fun f g => g.c = f.c) s t :=
  .of_modify (q := fun v t => (dec8 t.params.hcPolicy t.f v).1)
    (g := fun v t u => u.setF (dec8 t.params.hcPolicy t.f v).2) h fun _ _ _ hu => hu.setF rfl

theorem shiftLoc_atHL_frame (op : ShiftOp) (h : RunsTo (shiftLoc op .atHL s) t) :
    StoreFrame [s.hl] [] NoFlags s t :=
  .of_modify (q := fun v t => (shiftCompute op t.f.c v).1)
    (g := fun v t u => u.setF (shiftFlags (shiftCompute op t.f.c v))) h fun _ _ _ hu => hu.setF trivial

theorem resLoc_atHL_frame (k : Fin 8) (h : RunsTo (resLoc k .atHL s) t) : StoreFrame [s.hl] [] AllFlags s t :=
  .of_modify (q := fun v _ => resetBit k v) (g := fun _ _ u => u) h fun _ _ _ hu => hu

theorem setLoc_atHL_frame (k : Fin 8) (h : RunsTo (setLoc k .atHL s) t) : StoreFrame [s.hl] [] AllFlags s t :=
  .of_modify (q := fun v _ => setBit k v) (g := fun _ _ u => u) h fun _ _ _ hu => hu

end

/-- Settles O59: each form is a row of its family, whose frame is proved once. -/
theorem frameOfStores : Obligations.FrameOfStores := by
  intro s t r n w k sh high frame
  have hhigh (b : Byte) : high b = highPage b := (highPage_eq b).symm
  rw [hhigh, hhigh]
  exact ⟨fun h => ldLoc_atHL_frame r (exec_instrLd (d := .atHL) (o := .reg r) (by simp) s ▸ h),
    fun h => ldLocImm_atHL_frame n (exec_instrLdImm _ n s ▸ h),
    ldDirectA_frame, ldDirectA_frame, ldHLAStep_frame, ldHLAStep_frame, ldDirectA_frame, ldDirectA_frame,
    ldDirectA_frame, ldWordSp_frame,
    fun h => incLoc_atHL_frame (exec_instrInc8 _ s ▸ h), fun h => decLoc_atHL_frame (exec_instrDec8 _ s ▸ h),
    fun h => shiftLoc_atHL_frame sh (exec_instrShift sh _ s ▸ h),
    fun h => resLoc_atHL_frame k (exec_instrRes k _ s ▸ h),
    fun h => setLoc_atHL_frame k (exec_instrSet k _ s ▸ h)⟩

end Sys2Proof.Machine

/-! PROOFS. 16-bit arithmetic (O46), and the frame of the 16-bit forms, DI, EI and the jumps (O58). None of these forms
has an access, so each is its report on one state, whose results are said over natural numbers and whose frame is that
of the state's operations. -/

namespace Sys2Proof.Machine

/-! ## Results and flags over natural numbers (43_alu16.md R201 to R204) -/

/-- The offset added to a word is signed (00_scope.md R9). -/
theorem sext16_eq (e : Byte) : sext16 e = BitVec.ofNat 16 (signExtended e) := by
  apply BitVec.eq_of_toNat_eq
  have hlt := e.isLt
  rw [sext16, signExtended, BitVec.toNat_signExtend, BitVec.msb_eq_decide, BitVec.toNat_setWidth, BitVec.toNat_ofNat]
  by_cases h : e.toNat < 128
  · simp [h]
  · have hneg : 128 ≤ e.toNat := by omega
    simp only [h, hneg, decide_true, if_true, if_false]
    omega

section
variable (s : State) (r : Reg16) (a b : Word) (e : Byte)

theorem addHL16_eq (p : HcPolicy) (f : Flags) : addHL16 p f a b =
    (BitVec.ofNat 16 (a.toNat + b.toNat), ⟨f.z, false, hcAdd16 p a b, decide (a.toNat + b.toNat > 0xFFFF)⟩) := by
  have hsum : a + b = BitVec.ofNat 16 (a.toNat + b.toNat) := by bv_omega
  rw [addHL16, hsum]

theorem spOffset_eq (p : SpOffsetFlags) :
    spOffset p a e = (BitVec.ofNat 16 (a.toNat + signExtended e), offsetFlags p a e) := by
  have hsum : a + sext16 e = BitVec.ofNat 16 (a.toNat + signExtended e) := by rw [sext16_eq]; bv_omega
  cases p <;> simp only [spOffset, offsetFlags, hsum]

theorem inc16_eq : inc16 r s = .next (retire 1 2 (s.setR16 r (BitVec.ofNat 16 ((s.getR16 r).toNat + 1)))) := by
  have hsum : s.getR16 r + 1 = BitVec.ofNat 16 ((s.getR16 r).toNat + 1) := by bv_omega
  rw [inc16, hsum, finish_done]

theorem dec16_eq : dec16 r s = .next (retire 1 2 (s.setR16 r (BitVec.ofNat 16 ((s.getR16 r).toNat + 65535)))) := by
  have hdiff : s.getR16 r - 1 = BitVec.ofNat 16 ((s.getR16 r).toNat + 65535) := by bv_omega
  rw [dec16, hdiff, finish_done]

end

/-- Settles O46: the rows of a register of the table run one operation each, whose result and flags are those of the
natural numbers. -/
theorem arithmetic16 : Obligations.Arithmetic16 := by
  intro s p e v sum moved
  refine ⟨by fin_cases p <;> rfl, by fin_cases p <;> rfl, by fin_cases p <;> rfl, rfl, rfl,
    (exec_instrInc16 (r16 p) s).trans (inc16_eq s (r16 p)), (exec_instrDec16 (r16 p) s).trans (dec16_eq s (r16 p)),
    ?_, ?_, ?_⟩
  · rw [exec_instrAddHL, addHL, addHL16_eq]
    rfl
  · show addSp e s = _
    rw [addSp, spOffset_eq]
    rfl
  · show ldHLSp e s = _
    rw [ldHLSp, spOffset_eq]
    rfl

/-! ## The frame of a form with no access -/

/-- The registers a write of a 16-bit register writes; SP is no 8-bit register. -/
def wordDest : Reg16 → List Reg8
  | .bc => [.b, .c]
  | .de => [.d, .e]
  | .hl => [.h, .l]
  | .sp => []

theorem State.getR8_setR16_of_notMem (s : State) {r : Reg16} {q : Reg8} (w : Word) (h : q ∉ wordDest r) :
    (s.setR16 r w).getR8 q = s.getR8 q := by
  cases r <;> cases q <;> simp [wordDest] at h <;> rfl

theorem State.setR16_sp_of_ne_sp (s : State) {r : Reg16} (w : Word) (h : r ≠ .sp) : (s.setR16 r w).sp = s.sp := by
  cases r with
  | sp => exact absurd rfl h
  | _ => rfl

theorem StoresNothing.setR16 (s : State) (r : Reg16) (w : Word) : StoresNothing (wordDest r) s (s.setR16 r w) := by
  have hregs : KeepsRegs (wordDest r) s (s.setR16 r w) := fun q hq => s.getR8_setR16_of_notMem w hq
  cases r <;> exact .cpu s _ _ _ _ _ _ _ _ _ _ _ _ hregs

section
variable {dest : List Reg8} {s t u : State} {rep : Report}

/-- The report of a form with no access leaves SP, the flags and IME as its body left them. -/
theorem StoresNothing.of_done (h : RunsTo (finish (.done rep u)) t) (hu : StoresNothing dest s u) :
    StoresNothing dest s t ∧ t.sp = u.sp ∧ t.f = u.f ∧ t.ime = u.ime := by
  obtain ⟨hstore, hsp, hime, hf⟩ := ByteFrame.of_done h (.refl u)
  exact ⟨hu.trans hstore, hsp, hf, hime⟩

/-- LD rr,d16, INC and DEC write a register of the table and no flag (41_loads.md R151, 43_alu16.md R202, R203). -/
theorem setR16_frame {r : Reg16} {w : Word} (h : RunsTo (finish (.done rep (s.setR16 r w))) t) :
    StoresNothing (wordDest r) s t ∧ (r ≠ .sp → t.sp = s.sp) ∧ t.f = s.f ∧ t.ime = s.ime := by
  obtain ⟨hstore, hsp, hf, hime⟩ := StoresNothing.of_done h (.setR16 s r w)
  exact ⟨hstore, fun hr => hsp.trans (s.setR16_sp_of_ne_sp w hr), by simpa using hf, by simpa using hime⟩

/-- ADD HL and LD HL,SP+e8 write HL, then the flags (43_alu16.md R204, R206). -/
theorem setHl_setF_frame {w : Word} {f : Flags} (h : RunsTo (finish (.done rep ((s.setHl w).setF f))) t) :
    StoresNothing [.h, .l] s t ∧ t.sp = s.sp ∧ t.f = f ∧ t.ime = s.ime :=
  StoresNothing.of_done h ((StoresNothing.setHl s w (by simp) (by simp)).trans (.setF _ f))

/-- ADD HL keeps Z (43_alu16.md R204). -/
theorem addHL_frame (r : Reg16) (h : RunsTo (addHL r s) t) :
    StoresNothing [.h, .l] s t ∧ t.sp = s.sp ∧ t.f.z = s.f.z ∧ t.ime = s.ime := by
  obtain ⟨hstore, hsp, hf, hime⟩ := setHl_setF_frame h
  exact ⟨hstore, hsp, by rw [hf, addHL16], hime⟩

theorem addSp_frame (e : Byte) (h : RunsTo (addSp e s) t) : StoresNothing [] s t ∧ t.ime = s.ime := by
  obtain ⟨hstore, -, -, hime⟩ := StoresNothing.of_done h ((StoresNothing.setSp s _).trans (.setF _ _))
  exact ⟨hstore, hime⟩

theorem ldHLSp_frame (e : Byte) (h : RunsTo (ldHLSp e s) t) :
    StoresNothing [.h, .l] s t ∧ t.sp = s.sp ∧ t.ime = s.ime := by
  obtain ⟨hstore, hsp, -, hime⟩ := setHl_setF_frame h
  exact ⟨hstore, hsp, hime⟩

theorem ldSpHL_frame (h : RunsTo (ldSpHL s) t) : StoresNothing [] s t ∧ t.f = s.f ∧ t.ime = s.ime := by
  obtain ⟨hstore, -, hf, hime⟩ := StoresNothing.of_done h (.setSp s _)
  exact ⟨hstore, hf, hime⟩

theorem writeIme_frame (v : Bool) (h : RunsTo (writeIme v s) t) : StoresNothing [] s t ∧ t.sp = s.sp ∧ t.f = s.f := by
  obtain ⟨hstore, hsp, hf, -⟩ := StoresNothing.of_done h (.setIme s v)
  exact ⟨hstore, hsp, hf⟩

/-- A jump writes pc alone. -/
theorem setPc_frame {w : Word} (h : RunsTo (finish (.done rep (s.setPc w))) t) :
    StoresNothing [] s t ∧ t.sp = s.sp ∧ t.f = s.f ∧ t.ime = s.ime :=
  StoresNothing.of_done (u := s.setPc w) h (.setPc s w)

/-- A conditional jump has the frame of a jump, taken or not. -/
theorem setPc_or_stay_frame {c : Prop} [Decidable c] {rep' : Report} {w : Word}
    (h : RunsTo (finish (if c then .done rep (s.setPc w) else .done rep' s)) t) :
    StoresNothing [] s t ∧ t.sp = s.sp ∧ t.f = s.f ∧ t.ime = s.ime := by
  split at h
  · exact setPc_frame h
  · exact setPc_frame (w := s.pc) h

end

/-- Settles O58: each form is a row of its family, which writes a 16-bit register, HL or SP and the flags, IME, or
pc. -/
theorem frameOfWordForms : Obligations.FrameOfWordForms := by
  intro s t r w e j pair frame spKept
  have hpair : pair = wordDest r := by cases r <;> rfl
  rw [hpair]
  exact ⟨fun h => setR16_frame (exec_instrLdWord r w s ▸ h), fun h => setR16_frame (exec_instrInc16 r s ▸ h),
    fun h => setR16_frame (exec_instrDec16 r s ▸ h), fun h => addHL_frame r (exec_instrAddHL r s ▸ h),
    addSp_frame e, ldHLSp_frame e, ldSpHL_frame, writeIme_frame false, writeIme_frame true, setPc_frame,
    fun h => setPc_or_stay_frame (exec_instrJpCc j w s ▸ h), setPc_frame, setPc_frame,
    fun h => setPc_or_stay_frame (exec_instrJrCc j e s ▸ h)⟩

end Sys2Proof.Machine

/-! PROOFS. Rotates, shifts and bits: the accumulator rotates (O47), the extended shifts (O48), BIT, RES and SET (O49).
The results are said once over natural numbers: a shifted byte with bits put into the places it left free is a sum, and
so are a byte's bit and the rest of it. -/

namespace Sys2Proof.Machine

/-! ## Bits of a byte over natural numbers -/

section
variable (v : Byte)

/-- Bits put below a multiple of a power of 2 are added to it. -/
theorem toNat_or_eq_add {v w : Byte} (k : Nat) (hv : 2 ^ k ∣ v.toNat) (hw : w.toNat < 2 ^ k) :
    (v ||| w).toNat = v.toNat + w.toNat := by
  obtain ⟨q, hq⟩ := hv
  rw [BitVec.toNat_or, hq, Nat.two_pow_add_eq_or_of_lt hw]

theorem getLsbD_eq_decide (k : Nat) : v.getLsbD k = decide (v.toNat / 2 ^ k % 2 = 1) :=
  Nat.testBit_eq_decide_div_mod_eq

theorem getLsbD_zero_eq_decide : v.getLsbD 0 = decide (v.toNat % 2 = 1) := by
  rw [getLsbD_eq_decide, Nat.pow_zero, Nat.div_one]

theorem getLsbD_seven_eq_decide : v.getLsbD 7 = decide (v.toNat / 128 = 1) := by
  rw [getLsbD_eq_decide, decide_eq_decide]
  have hlt := v.isLt
  omega

theorem toNat_shiftLeft_eq_mul (k : Nat) : (v <<< k).toNat = v.toNat * 2 ^ k % 256 := by
  rw [BitVec.toNat_shiftLeft, Nat.shiftLeft_eq]

theorem toNat_shiftRight_eq_div (k : Nat) : (v >>> k).toNat = v.toNat / 2 ^ k := by
  rw [BitVec.toNat_ushiftRight, Nat.shiftRight_eq_div_pow]

theorem toNat_and_one : (v &&& 1).toNat = v.toNat % 2 := Nat.and_two_pow_sub_one_eq_mod v.toNat 1

theorem toNat_and_lowNibble : (v &&& 0x0F).toNat = v.toNat % 16 := Nat.and_two_pow_sub_one_eq_mod v.toNat 4

theorem toNat_and_twoPow (k : Fin 8) : (v &&& 1#8 <<< k.val).toNat = v.toNat / 2 ^ k.val % 2 * 2 ^ k.val := by
  have hk : (1#8 <<< k.val).toNat = 2 ^ k.val := by fin_cases k <;> rfl
  rw [BitVec.toNat_and, hk, Nat.and_two_pow, Nat.toNat_testBit]

theorem beq_zero_eq_decide_toNat : (v == 0) = decide (v.toNat = 0) := beq_zero_eq_decide (by bv_omega)

theorem toNat_carryByte (c : Bool) : (carryByte c).toNat = c.toNat := by cases c <;> rfl

end

/-! ## The shifts (44_rotate_shift_bit.md R216 to R236) -/

section
variable (y : Fin 8) (c : Bool) (v : Byte)

/-- The byte goes left and a bit comes in below. -/
theorem toNat_shiftLeft_one_or {w : Byte} (hw : w.toNat < 2) :
    (v <<< 1 ||| w).toNat = v.toNat * 2 % 256 + w.toNat := by
  have hv : (v <<< 1).toNat = v.toNat * 2 % 256 := toNat_shiftLeft_eq_mul v 1
  rw [toNat_or_eq_add 1 (by omega) hw, hv]

/-- The byte goes right and a bit comes in on top. -/
theorem toNat_shiftRight_one_or {w : Byte} (hw : 128 ∣ w.toNat) :
    (v >>> 1 ||| w).toNat = v.toNat / 2 + w.toNat := by
  have hv : (v >>> 1).toNat = v.toNat / 2 := toNat_shiftRight_eq_div v 1
  have hlt := v.isLt
  rw [BitVec.or_comm, toNat_or_eq_add 7 hw (by omega), hv, Nat.add_comm]

/-- A bit goes to the top of a byte. -/
theorem toNat_shiftLeft_seven {w : Byte} (hw : w.toNat < 2) : (w <<< 7).toNat = w.toNat * 128 := by
  rw [toNat_shiftLeft_eq_mul]
  omega

theorem shiftCompute_result : (shiftCompute (shiftOp y) c v).1.toNat = (shifted y c v.toNat).1 := by
  have hlt := v.isLt
  have hcarry : (carryByte c).toNat = c.toNat := toNat_carryByte c
  have hcarryLt : (carryByte c).toNat < 2 := hcarry ▸ c.toNat_lt
  have htop : (v >>> 7).toNat = v.toNat / 128 := toNat_shiftRight_eq_div v 7
  have hlow : (v &&& 1).toNat = v.toNat % 2 := toNat_and_one v
  match y with
  | 0 => exact (toNat_shiftLeft_one_or v (by omega)).trans (by rw [htop]; rfl)
  | 1 =>
    have hin : ((v &&& 1) <<< 7).toNat = v.toNat % 2 * 128 := hlow ▸ toNat_shiftLeft_seven (by omega)
    exact (toNat_shiftRight_one_or v (by omega)).trans (by rw [hin]; rfl)
  | 2 => exact (toNat_shiftLeft_one_or v hcarryLt).trans (by rw [hcarry]; rfl)
  | 3 =>
    have hin : (carryByte c <<< 7).toNat = c.toNat * 128 := hcarry ▸ toNat_shiftLeft_seven hcarryLt
    exact (toNat_shiftRight_one_or v (by omega)).trans (by rw [hin]; rfl)
  | 4 => exact toNat_shiftLeft_eq_mul v 1
  | 5 =>
    have hbit : (v &&& 0x80).toNat = v.toNat / 128 % 2 * 128 := toNat_and_twoPow v 7
    have hin : (v &&& 0x80).toNat = v.toNat / 128 * 128 := by omega
    exact (toNat_shiftRight_one_or v (by omega)).trans (by rw [hin]; rfl)
  | 6 =>
    have hleft : ((v &&& 0x0F) <<< 4).toNat = v.toNat % 16 * 16 := by
      rw [toNat_shiftLeft_eq_mul, toNat_and_lowNibble]
      omega
    have hright : (v >>> 4).toNat = v.toNat / 16 := toNat_shiftRight_eq_div v 4
    exact (toNat_or_eq_add 4 (by omega) (by omega)).trans (by rw [hleft, hright]; rfl)
  | 7 => exact toNat_shiftRight_eq_div v 1

theorem shiftCompute_out : (shiftCompute (shiftOp y) c v).2 = (shifted y c v.toNat).2 := by
  have hleft := getLsbD_seven_eq_decide v
  have hright := getLsbD_zero_eq_decide v
  fin_cases y
  · exact hleft
  · exact hright
  · exact hleft
  · exact hright
  · exact hleft
  · exact hright
  · rfl
  · exact hright

theorem shiftCompute_eq :
    shiftCompute (shiftOp y) c v = (BitVec.ofNat 8 (shifted y c v.toNat).1, (shifted y c v.toNat).2) := by
  rw [← shiftCompute_result, ← shiftCompute_out, BitVec.ofNat_toNat, BitVec.setWidth_eq]

theorem shiftFlags_shiftCompute : shiftFlags (shiftCompute (shiftOp y) c v) =
    ⟨decide ((shifted y c v.toNat).1 = 0), false, false, (shifted y c v.toNat).2⟩ := by
  rw [shiftFlags, shiftCompute_out, ← shiftCompute_result, beq_zero_eq_decide_toNat]

theorem accZ_eq (p : AccRotZ) : accZ p v = decide (p = .fromResult ∧ v.toNat = 0) := by
  cases p with
  | fromResult => simpa [accZ] using beq_zero_eq_decide_toNat v
  | zero => simp [accZ]

end

/-! ## The accumulator rotates -/

/-- An accumulator rotate is the extended one of the same bits, but for the flag Z. -/
theorem accRotate_eq {op : AccRot} {y : Fin 8} {s : State}
    (h : accRotCompute op s.f.c s.a = shiftCompute (shiftOp y) s.f.c s.a) :
    let r := shifted y s.f.c s.a.toNat
    accRotate op s = .next (retire 1 1
      { s with
        a := BitVec.ofNat 8 r.1
        f := ⟨decide (s.params.accRotZ = .fromResult ∧ r.1 = 0), false, false, r.2⟩ }) := by
  intro r
  rw [accRotate, h, accRotFlags, accZ_eq, shiftCompute_result, shiftCompute_eq]
  rfl

/-- Settles O47: each is the extended rotate of the same bits. -/
theorem accumulatorRotates : Obligations.AccumulatorRotates := by
  intro s rotates v
  exact ⟨⟨rfl, accRotate_eq (op := .rlca) (y := 0) rfl⟩, ⟨rfl, accRotate_eq (op := .rrca) (y := 1) rfl⟩,
    ⟨rfl, accRotate_eq (op := .rla) (y := 2) rfl⟩, ⟨rfl, accRotate_eq (op := .rra) (y := 3) rfl⟩⟩

/-! ## The extended shifts -/

/-- The second byte 00yyyzzz (30_encoding.md R101). -/
theorem encode_instrShift (y z : Fin 8) :
    encode (instrShift (shiftOp y) (r8 z)) = [0xCB, BitVec.ofNat 8 (8 * y.val + z.val)] := by
  revert y z
  decide

/-- Settles O48: the operand is read and written over, then the flags. -/
theorem extendedShifts : Obligations.ExtendedShifts := by
  intro s y z o i r
  have hcyc : byForm o 2 4 = if z = 6 then 4 else 2 := byForm_r8 z 2 4
  have hexec : exec i s = shiftLoc (shiftOp y) o s := exec_instrShift (shiftOp y) o s
  obtain ⟨hdone, hread, hwrite⟩ := modify_done_or_faults 2 (byForm o 2 4)
    (fun v t => (shiftCompute (shiftOp y) t.f.c v).1)
    (fun v t u => u.setF (shiftFlags (shiftCompute (shiftOp y) t.f.c v))) s o
  rw [hexec, ← hcyc]
  refine ⟨encode_instrShift y z, fun hsrc hdst => (hdone hsrc hdst).trans ?_, hread, hwrite⟩
  rw [srcAfter_f, shiftFlags_shiftCompute, shiftCompute_eq]
  rfl

/-! ## The bits (44_rotate_shift_bit.md R237 to R242) -/

section
variable (k : Fin 8) (v : Byte)

theorem bitFlags_eq (f : Flags) :
    bitFlags f k v = ⟨decide (v.toNat / 2 ^ k.val % 2 = 0), f.n, f.h, f.c⟩ := by
  have hz : (!v.getLsbD k.val) = decide (v.toNat / 2 ^ k.val % 2 = 0) := by
    rw [getLsbD_eq_decide, ← decide_not, decide_eq_decide, Nat.mod_two_not_eq_one]
  rw [bitFlags, hz]

/-- A byte is the part outside a mask and the part inside. -/
theorem and_not_add_and (m : Byte) : (v &&& ~~~m) + (v &&& m) = v := by
  have hdisjoint : (v &&& ~~~m) &&& (v &&& m) = 0#8 := by
    ext i
    cases hm : m[i] <;> simp [hm]
  rw [BitVec.add_eq_or_of_and_eq_zero _ _ hdisjoint]
  ext i
  cases hm : m[i] <;> simp [hm]

/-- Setting bits is adding them where they were clear. -/
theorem and_not_add (m : Byte) : (v &&& ~~~m) + m = v ||| m := by
  have hdisjoint : (v &&& ~~~m) &&& m = 0#8 := by
    ext i
    simp
  rw [BitVec.add_eq_or_of_and_eq_zero _ _ hdisjoint]
  ext i
  cases hm : m[i] <;> simp [hm]

theorem resetBit_eq : resetBit k v = BitVec.ofNat 8 (v.toNat - v.toNat / 2 ^ k.val % 2 * 2 ^ k.val) := by
  have hsum := and_not_add_and v (1#8 <<< k.val)
  have hle : (v &&& 1#8 <<< k.val).toNat ≤ v.toNat := Nat.and_le_left
  rw [← toNat_and_twoPow, resetBit]
  bv_omega

theorem setBit_eq :
    setBit k v = BitVec.ofNat 8 (v.toNat - v.toNat / 2 ^ k.val % 2 * 2 ^ k.val + 2 ^ k.val) := by
  have hmask : 1#8 <<< k.val = BitVec.ofNat 8 (2 ^ k.val) := by fin_cases k <;> rfl
  rw [BitVec.ofNat_add, ← resetBit_eq, ← hmask]
  exact (and_not_add v _).symm

end

/-- The second byte xxyyyzzz with x = 1, 2, 3 (30_encoding.md R101). -/
theorem encode_instrBit (y z : Fin 8) :
    encode (instrBit y (r8 z)) = [0xCB, BitVec.ofNat 8 (0x40 + 8 * y.val + z.val)] := by
  revert y z
  decide

theorem encode_instrRes (y z : Fin 8) :
    encode (instrRes y (r8 z)) = [0xCB, BitVec.ofNat 8 (0x80 + 8 * y.val + z.val)] := by
  revert y z
  decide

theorem encode_instrSet (y z : Fin 8) :
    encode (instrSet y (r8 z)) = [0xCB, BitVec.ofNat 8 (0xC0 + 8 * y.val + z.val)] := by
  revert y z
  decide

/-- Settles O49: BIT reads the operand and writes Z; RES and SET read it and write it over. -/
theorem bitResAndSet : Obligations.BitResAndSet := by
  intro s y z o v bit rest cyc
  have hcyc : byForm o 2 4 = cyc := byForm_r8 z 2 4
  obtain ⟨hres, hresRead, hresWrite⟩ :=
    modify_done_or_faults 2 (byForm o 2 4) (fun v _ => resetBit y v) (fun _ _ u => u) s o
  obtain ⟨hset, hsetRead, hsetWrite⟩ :=
    modify_done_or_faults 2 (byForm o 2 4) (fun v _ => setBit y v) (fun _ _ u => u) s o
  rw [exec_instrBit, exec_instrRes, exec_instrSet, ← hcyc, ← byForm_r8, ← setBit_eq, ← resetBit_eq]
  refine ⟨encode_instrBit y z, encode_instrRes y z, encode_instrSet y z, fun hsrc => ?_,
    fun hsrc hdst => ⟨hres hsrc hdst, hset hsrc hdst⟩,
    fun hsrc => ⟨faults_bind_of_exit (loadLoc_exit hsrc) rfl, hresRead hsrc, hsetRead hsrc⟩,
    fun hsrc hdst => ⟨hresWrite hsrc hdst, hsetWrite hsrc hdst⟩⟩
  rw [bitLoc, finish_bind_of_done (loadLoc_loc hsrc), bitFlags_eq, srcAfter_f]
  rfl

end Sys2Proof.Machine

/-! PROOFS. Control transfer: the jumps (O50), calls and restarts (O51), the returns (O52). A form with a condition is
the form without one where the condition holds; a call or a restart is one push and then pc, a return one pop into
pc. -/

namespace Sys2Proof.Machine

/-! ## A condition that holds and one that does not (45_control_transfer.md R245) -/

section
variable (i : Fin 4) (a : Word) (e : Byte) (s : State)

theorem finish_ite_condMet (f : Flags) (taken untaken : Access Report) :
    finish (if condMet (cc i) f then taken else untaken) =
      if condHolds i f then finish taken else finish untaken := by
  rw [apply_ite finish]
  exact if_congr (condMet_cc i f) rfl rfl

theorem exec_instrJpCc_eq_ite :
    exec (instrJpCc (cc i) a) s = if condHolds i s.f then jump a s else .next (retire 3 3 s) :=
  (exec_instrJpCc (cc i) a s).trans (finish_ite_condMet i s.f _ _)

theorem exec_instrJrCc_eq_ite :
    exec (instrJrCc (cc i) e) s = if condHolds i s.f then jumpRel e s else .next (retire 2 2 s) :=
  (exec_instrJrCc (cc i) e s).trans (finish_ite_condMet i s.f _ _)

theorem exec_instrCallCc_eq_ite :
    exec (instrCallCc (cc i) a) s = if condHolds i s.f then call a s else .next (retire 3 3 s) :=
  (exec_instrCallCc (cc i) a s).trans (finish_ite_condMet i s.f _ _)

theorem exec_instrRetCc_eq_ite :
    exec (instrRetCc (cc i)) s = if condHolds i s.f then finish (retWith 5 s) else .next (retire 1 2 s) :=
  (exec_instrRetCc (cc i) s).trans (finish_ite_condMet i s.f _ _)

/-! ## The jumps -/

theorem relTarget_eq : relTarget e s = BitVec.ofNat 16 (s.pc.toNat + 2 + signExtended e) := by
  rw [relTarget, sext16_eq]
  bv_omega

theorem jumpRel_eq :
    jumpRel e s = .next (retire 0 3 { s with pc := BitVec.ofNat 16 (s.pc.toNat + 2 + signExtended e) }) := by
  rw [jumpRel, relTarget_eq, finish_done]
  rfl

end

/-- Settles O50: a jump writes pc, and a jump not taken writes nothing before its end. -/
theorem jumps : Obligations.Jumps := by
  intro s i a e target
  have hjp := exec_instrJpCc_eq_ite i a s
  have hjr := exec_instrJrCc_eq_ite i e s
  exact ⟨rfl, rfl, by fin_cases i <;> rfl, fun h => hjp.trans (if_pos h), fun h => hjp.trans (if_neg h), rfl, rfl, rfl,
    jumpRel_eq e s, by fin_cases i <;> rfl, fun h => (hjr.trans (if_pos h)).trans (jumpRel_eq e s),
    fun h => hjr.trans (if_neg h)⟩

/-! ## Calls and restarts -/

section
variable {s : State} {x : Host.Outcome State Fault Refusal} {len cyc : Nat} {target : Word}

/-- The address after an instruction, as a number. -/
theorem pc_add_ofNat (s : State) (len : Nat) :
    s.pc + BitVec.ofNat 16 len = BitVec.ofNat 16 (s.pc.toNat + len) := by
  rw [BitVec.ofNat_add, BitVec.ofNat_toNat, BitVec.setWidth_eq]

theorem callTo_eq (hx : x = finish (callTo len cyc target s)) (h : writable16 s (s.sp - 2) = true) :
    x = .next (retire 0 cyc
      { afterWrite16 { s with sp := s.sp - 2 } (s.sp - 2) (BitVec.ofNat 16 (s.pc.toNat + len)) with
        pc := target }) := by
  rw [hx, callTo, pc_add_ofNat]
  exact finish_bind_of_done (g := fun _ t => t.setPc target) (push16_eq _ h)

/-- The exit is at the first byte of the stack that no region accepts. -/
theorem callTo_faults (hx : x = finish (callTo len cyc target s)) :
    (writable s (s.sp - 2) = false → Faults x s (s.sp - 2) .write) ∧
    (writable s (s.sp - 2) = true → writable s (s.sp - 1) = false → Faults x s (s.sp - 1) .write) := by
  rw [hx]
  exact ⟨fun h => faults_bind_of_exit (push16_exit_first _ h) rfl,
    fun h h' => faults_bind_of_exit (push16_exit_second _ h h') (afterWrite_pc _ _ _)⟩

end

/-- Settles O51: a call and a restart are one push of the address after the instruction, then pc. -/
theorem callsAndRestarts : Obligations.CallsAndRestarts := by
  intro s i y a pushed stackFaults
  have hcall := exec_instrCallCc_eq_ite i a s
  exact ⟨rfl, callTo_eq rfl, callTo_faults rfl, by fin_cases i <;> rfl,
    fun hc => callTo_eq (hcall.trans (if_pos hc)), fun hc => callTo_faults (hcall.trans (if_pos hc)),
    fun hc => hcall.trans (if_neg hc), by fin_cases y <;> rfl, callTo_eq (exec_instrRst y s),
    callTo_faults (exec_instrRst y s)⟩

/-! ## Returns -/

section
variable {s : State} {x : Host.Outcome State Fault Refusal} {cyc : Nat} {g : Word → State → State}

/-- A form whose one access is a pop, where both bytes are answered. -/
theorem popForm_eq (hx : x = finish ((pop16 s).bind fun v t => .done ⟨0, cyc⟩ (g v t)))
    (h : readable16 s s.sp = true) :
    x = .next (retire 0 cyc (g (value16 s s.sp) { afterRead16 s s.sp with sp := s.sp + 2 })) := by
  rw [hx]
  exact finish_bind_of_done (pop16_eq h)

/-- The exit is at the first byte of the stack that no region answers. -/
theorem popForm_faults {k : Word → State → Access Report} (hx : x = finish ((pop16 s).bind k)) :
    (readable s s.sp = false → Faults x s s.sp .read) ∧
    (readable s s.sp = true → readable s (s.sp + 1) = false → Faults x s (s.sp + 1) .read) := by
  rw [hx]
  exact ⟨fun h => faults_bind_of_exit (pop16_exit_first h) rfl,
    fun h h' => faults_bind_of_exit (pop16_exit_second h h') (afterRead_pc s s.sp)⟩

/-- RETI is one pop, then pc, then IME (45_control_transfer.md R255). -/
theorem reti_eq_pop (s : State) :
    reti s = finish ((pop16 s).bind fun v t => .done ⟨0, 4⟩ ((t.setPc v).setIme true)) := by
  rw [reti, retWith, Access.bind_assoc]
  rfl

end

/-- Settles O52: a return is one pop, then pc, and IME after it for RETI. -/
theorem returns : Obligations.Returns := by
  intro s i popped stackFaults
  have hret := exec_instrRetCc_eq_ite i s
  exact ⟨rfl, popForm_eq (g := fun v t => t.setPc v) rfl, popForm_faults rfl, rfl,
    popForm_eq (g := fun v t => (t.setPc v).setIme true) (reti_eq_pop s), popForm_faults (reti_eq_pop s),
    by fin_cases i <;> rfl,
    fun hc => popForm_eq (g := fun v t => t.setPc v) (hret.trans (if_pos hc)),
    fun hc => popForm_faults (hret.trans (if_pos hc)), fun hc => hret.trans (if_neg hc)⟩

end Sys2Proof.Machine

/-! PROOFS. The system forms: the prefix (O56), and NOP, DI and EI (O53). Every extended instruction whose accesses are
answered ends with pc past its two bytes; the prefix is the read of the second one before it. -/

namespace Sys2Proof.Machine

/-! ## Where an instruction ends with the run as it was (40_execution_loop.md R114, R115) -/

/-- The outcome is a next state whose pc is past an instruction of that length, and whose status is as it was. -/
def MovesPast (len : Nat) (s : State) (x : Host.Outcome State Fault Refusal) : Prop :=
  ∃ u, x = .next u ∧ u.pc = s.pc + BitVec.ofNat 16 len ∧ u.status = s.status

@[simp] theorem afterRead_status (s : State) (a : Word) : (afterRead s a).status = s.status :=
  (BodyKeeps.afterRead s a).status

@[simp] theorem srcAfter_status (s : State) (o : Operand8) : (srcAfter s o).status = s.status := by
  cases o <;> simp [srcAfter]

@[simp] theorem dstAfter_status (s : State) (o : Operand8) (v : Byte) : (dstAfter s o v).status = s.status := by
  cases o with
  | reg r => exact State.setR8_status s r v
  | atHL => exact (BodyKeeps.afterWrite s s.hl v).status

@[simp] theorem dstAfter_pc (s : State) (o : Operand8) (v : Byte) : (dstAfter s o v).pc = s.pc := by
  cases o with
  | reg r => exact State.setR8_pc s r v
  | atHL => exact afterWrite_pc s s.hl v

section
variable {s u : State} {x : Host.Outcome State Fault Refusal} {len cyc : Nat}

theorem MovesPast.of_retire (hx : x = .next (retire len cyc u)) (hpc : u.pc = s.pc) (hstatus : u.status = s.status) :
    MovesPast len s x := by
  obtain ⟨c, m, l, b, p, hmoves⟩ := retire_moves len cyc u
  exact ⟨_, hx, by rw [hmoves, hpc], by rw [hmoves, hstatus]⟩

end

/-! ## The extended instructions (30_encoding.md R98) -/

section
variable {s : State} {o : Operand8}

theorem bitLoc_movesPast (k : Fin 8) (hsrc : srcReadable s o = true) : MovesPast 2 s (bitLoc k o s) :=
  .of_retire (finish_bind_of_done (g := fun v t => t.setF (bitFlags t.f k v)) (loadLoc_loc hsrc)) (by simp) (by simp)

section
variable (hsrc : srcReadable s o = true) (hdst : dstWritable s o = true)
include hsrc hdst

theorem shiftLoc_movesPast (op : ShiftOp) : MovesPast 2 s (shiftLoc op o s) := by
  obtain ⟨hdone, -, -⟩ := modify_done_or_faults 2 (byForm o 2 4) (fun v t => (shiftCompute op t.f.c v).1)
    (fun v t u => u.setF (shiftFlags (shiftCompute op t.f.c v))) s o
  exact .of_retire (hdone hsrc hdst) (by simp) (by simp)

theorem resLoc_movesPast (k : Fin 8) : MovesPast 2 s (resLoc k o s) := by
  obtain ⟨hdone, -, -⟩ := modify_done_or_faults 2 (byForm o 2 4) (fun v _ => resetBit k v) (fun _ _ u => u) s o
  exact .of_retire (hdone hsrc hdst) (by simp) (by simp)

theorem setLoc_movesPast (k : Fin 8) : MovesPast 2 s (setLoc k o s) := by
  obtain ⟨hdone, -, -⟩ := modify_done_or_faults 2 (byForm o 2 4) (fun v _ => setBit k v) (fun _ _ u => u) s o
  exact .of_retire (hdone hsrc hdst) (by simp) (by simp)

end

theorem runExtended_movesPast {cb : Byte} (hsrc : srcReadable s (r8 (fieldZ cb)) = true)
    (hdst : dstWritable s (r8 (fieldZ cb)) = true) : MovesPast 2 s (runExtended cb s) := by
  unfold runExtended
  split
  · exact shiftLoc_movesPast hsrc hdst _
  · exact bitLoc_movesPast _ hsrc
  · exact resLoc_movesPast hsrc hdst _
  · exact setLoc_movesPast hsrc hdst _

/-- The operand is the byte at HL exactly where the low three bits are 6 (30_encoding.md R92, R93). -/
theorem r8_fieldZ_eq_atHL {cb : Byte} : r8 (fieldZ cb) = .atHL ↔ cb.toNat % 8 = 6 := by
  rw [r8_eq_atHL, Fin.ext_iff]
  rfl

theorem srcReadable_afterRead (s : State) (a : Word) (o : Operand8) :
    srcReadable (afterRead s a) o = srcReadable s o := by
  cases o <;> simp [srcReadable]

theorem dstWritable_afterRead (s : State) (a : Word) (o : Operand8) :
    dstWritable (afterRead s a) o = dstWritable s o := by
  cases o <;> simp [dstWritable]

theorem srcReadable_and_dstWritable_of_ne_atHL (h : o ≠ .atHL) :
    srcReadable s o = true ∧ dstWritable s o = true := by
  cases o with
  | reg r => exact ⟨rfl, rfl⟩
  | atHL => exact absurd rfl h

/-! ## The prefix -/

theorem runPrefixed_of_readable (h : readable s (s.pc + 1) = true) :
    runPrefixed s = runExtended (valueAt s (s.pc + 1)) (afterRead s (s.pc + 1)) := by
  rw [runPrefixed, memRead_of_readable h]

theorem runPrefixed_faults (h : readable s (s.pc + 1) = false) : Faults (runPrefixed s) s (s.pc + 1) .read := by
  rw [runPrefixed, memRead_of_not_readable h]
  exact ⟨_, rfl, by rw [raiseExit_status, pcAtExit_outOfBounds]⟩

/-- The read of the second byte moves neither HL nor what is answered, so the operand's accesses are those of the state
before it. -/
theorem runPrefixed_movesPast (h : readable s (s.pc + 1) = true) (ho : r8 (fieldZ (valueAt s (s.pc + 1))) = o)
    (hsrc : srcReadable s o = true) (hdst : dstWritable s o = true) : MovesPast 2 s (runPrefixed s) := by
  subst ho
  rw [← srcReadable_afterRead s (s.pc + 1)] at hsrc
  rw [← dstWritable_afterRead s (s.pc + 1)] at hdst
  obtain ⟨u, hu, hpc, hstatus⟩ := runExtended_movesPast hsrc hdst
  exact ⟨u, (runPrefixed_of_readable h).trans hu, by rw [hpc, afterRead_pc], by rw [hstatus, afterRead_status]⟩

end

/-- Settles O56: the second byte read, its extended instruction runs; its operand is a register, always answered, or
the byte at HL. -/
theorem prefixRunsExtended : Obligations.PrefixRunsExtended := by
  intro s cb t
  refine ⟨fun h => ?_, fun h hcb => ?_, fun h hcb hsrc hdst => ?_, runPrefixed_faults⟩
  · exact (runPrefixed_of_readable h).trans (runExtended_eq cb t)
  · obtain ⟨hsrc, hdst⟩ := srcReadable_and_dstWritable_of_ne_atHL (s := s) (mt r8_fieldZ_eq_atHL.mp hcb)
    exact runPrefixed_movesPast h rfl hsrc hdst
  · exact runPrefixed_movesPast h (r8_fieldZ_eq_atHL.mpr hcb) hsrc hdst

/-! ## NOP, DI and EI -/

/-- DI and EI write IME before their end (46_system.md R268, R269). -/
theorem writeIme_eq (v : Bool) (s : State) : writeIme v s = .next (retire 1 1 { s with ime := v }) :=
  finish_done ⟨1, 1⟩ (s.setIme v)

/-- Settles O53: none of the three has an access; NOP writes nothing before its end, DI and EI write IME. -/
theorem nopDiAndEi : Obligations.NopDiAndEi := by
  intro s
  exact ⟨rfl, finish_done ⟨1, 1⟩ s, rfl, writeIme_eq false s, rfl, writeIme_eq true s⟩

end Sys2Proof.Machine

/-! PROOFS. The PPU: the transition out of each mode (O11), one transition per step (O10), a rendered row's place in FB
(O14) and its pixels (O13). -/

namespace Sys2Proof.Machine

/-! ## The transition out of each mode (48_ppu.md R281) -/

theorem beginPublish_eq (s : State) :
    beginPublish s = { s with phase := if s.params.consumerAttached then .awaitAck else s.phase } := by
  unfold beginPublish
  split <;> rfl

/-- Settles O11: one equation per mode; what the entry to VBlank begins is `beginPublish`. -/
theorem ppuTransitions : Obligations.PpuTransitions := by
  intro s
  refine ⟨fun hm => ?_, fun hm => ?_, fun hm hl => ?_, fun hm hl => ?_, fun hm hl => ?_, fun hm hl => ?_⟩
  · rw [ppuTransition_oamScan hm]
  · rw [ppuTransition_pixelTransfer hm]; rfl
  · rw [ppuTransition_hBlank_next hm hl]
  · rw [ppuTransition_hBlank_entry hm hl, beginPublish_eq, hl]
  · rw [ppuTransition_vBlank_next hm (by omega)]
  · rw [ppuTransition_vBlank_last hm (by omega)]

/-! ## One transition per step (48_ppu.md R282 to R284) -/

/-- Every transition leaves the clock that `PPU_OVERSHOOT` asks for (48_ppu.md R283). -/
theorem ppuTransition_clock (s : State) :
    (ppuTransition s).clock = clockAfter s.params.ppuOvershoot s.mode s.clock := by
  cases hm : s.mode with
  | oamScan => rw [ppuTransition_oamScan hm, hm]
  | pixelTransfer => rw [ppuTransition_pixelTransfer hm, hm]
  | hBlank =>
    by_cases hl : s.line + 1 = s.params.vblankEntry.toNat
    · rw [ppuTransition_hBlank_entry hm hl, beginPublish_eq, hm]
    · rw [ppuTransition_hBlank_next hm hl, hm]
  | vBlank =>
    by_cases hl : 153 < s.line + 1
    · rw [ppuTransition_vBlank_last hm hl, hm]
    · rw [ppuTransition_vBlank_next hm hl, hm]

theorem clockAfter_eq (o : Overshoot) (m : PpuMode) (clock : Nat) :
    clockAfter o m clock = if o = .carry then clock - thr m else 0 := by
  cases o <;> rfl

section
variable {s : State}

theorem ppuRun_of_clock_lt (h : s.clock < thr s.mode) : ppuRun s = s := by
  rw [ppuRun_eq, if_neg]
  simpa [ppuDue] using fun _ => h

/-- A clock that a due transition leaves below the least threshold makes it the only one. -/
theorem ppuRun_of_clock_lt_after (hrun : s.phase = .running) (hdue : thr s.mode ≤ s.clock)
    (hafter : (ppuTransition s).clock < 80) : ppuRun s = ppuTransition s := by
  have hd : ppuDue s = true := by simp [ppuDue, hrun, hdue]
  rw [ppuRun_eq, if_pos hd, ppuRun_of_clock_lt (hafter.trans_le (thr_pos _))]

end

/-- Settles O10: 80 ticks more than a clock below the threshold leave fewer than 80 under `Carry`, and `Reset` leaves
none, so no second transition is due in any mode. -/
theorem oneTransitionPerStep : Obligations.OneTransitionPerStep := by
  intro t s hrun hlt
  refine ⟨fun hbelow => ppuRun_of_clock_lt hbelow, fun hdue ht => ?_⟩
  have hclock : (ppuTransition { s with clock := s.clock + t }).clock =
      if s.params.ppuOvershoot = .carry then s.clock + t - thr s.mode else 0 :=
    (ppuTransition_clock _).trans (clockAfter_eq _ _ _)
  have hone : ppuStep t s = ppuTransition { s with clock := s.clock + t } := by
    refine ppuRun_of_clock_lt_after hrun hdue ?_
    rw [hclock]
    obtain ht | hreset := ht
    · split <;> omega
    · simp [hreset]
  exact ⟨hone, by rw [hone, hclock]⟩

/-! ## The place of a row in FB (48_ppu.md R286, R294) -/

/-- Settles O14: the row is one run of 640 bytes, stored at l * 640. -/
theorem renderWritesOneRow : Obligations.RenderWritesOneRow := by
  intro s l
  refine ⟨fun k hk => Memory.read_writeRun_of_outside _ _ _ ?_, rfl⟩
  rw [rowBytes_length]
  omega

/-! ## The pixels of a row (48_ppu.md R287 to R290) -/

/-- Blocks of one length laid end to end: the place k of block i lies at i * n + k. -/
theorem getElem?_flatMap_of_length {α β : Type} {f : α → List β} {n k : Nat}
    (hf : ∀ a, (f a).length = n) (hk : k < n) (xs : List α) (i : Nat) :
    (xs.flatMap f)[i * n + k]? = xs[i]?.bind fun a => (f a)[k]? := by
  induction xs generalizing i with
  | nil => simp
  | cons x xs ih =>
    rw [List.flatMap_cons]
    cases i with
    | zero => simp [List.getElem?_append_left, hf, hk]
    | succ i =>
      have hplace : (i + 1) * n + k = n + (i * n + k) := by ring
      rw [hplace, List.getElem?_append_right (by rw [hf]; omega), hf, Nat.add_sub_cancel_left, ih,
        List.getElem?_cons_succ]

/-- The bytes R, G and B are the grey level, and A is 0xFF. -/
theorem pixelBytes_getElem? (g : Byte) {k : Nat} (hk : k < 4) :
    (pixelBytes g)[k]? = some (if k = 3 then 255 else g) := by
  obtain rfl | rfl | rfl | rfl : k = 0 ∨ k = 1 ∨ k = 2 ∨ k = 3 := by omega
  all_goals rfl

theorem rowBytes_getElem? (p : Polarity) (ram : Memory) (scx scy : Byte) (l : Nat) {px k : Nat} (hpx : px < 160)
    (hk : k < 4) : (rowBytes p ram scx scy l)[px * 4 + k]? =
      some (if k = 3 then 255 else pixelGrey p ram scx scy l px) := by
  rw [rowBytes, getElem?_flatMap_of_length (n := 4) (fun _ => rfl) hk, List.getElem?_range hpx, Option.bind_some,
    pixelBytes_getElem? _ hk]

theorem renderLine_fb_read (s : State) (l : Nat) {px k : Nat} (hpx : px < 160) (hk : k < 4) :
    (renderLine l s).fb.read ((l * 160 + px) * 4 + k) =
      if k = 3 then 255 else pixelGrey s.params.pixelPolarity s.ram s.scx s.scy l px := by
  have hplace : (l * 160 + px) * 4 + k = l * 640 + (px * 4 + k) := by ring
  obtain ⟨hi, hbyte⟩ := List.getElem?_eq_some_iff.mp
    (rowBytes_getElem? s.params.pixelPolarity s.ram s.scx s.scy l hpx hk)
  rw [hplace, renderLine, Memory.read_writeRun_of_inside _ _ _ _ hi, hbyte]

theorem grey_eq (p : Polarity) (b : Bool) : grey p b = if (b = true ↔ p = .setIsBlack) then 0 else 255 := by
  cases p <;> cases b <;> rfl

/-- Settles O13: the byte at the pixel's place is its grey level or A, and the sample is a bit over natural numbers. -/
theorem renderedPixel : Obligations.RenderedPixel := by
  intro s l px k hpx hk mx my id b bit
  have hsample : tileSample s.ram (mapX s.scx px) (mapY s.scy l) = true ↔ bit = 1 := by
    rw [tileSample, getLsbD_eq_decide, decide_eq_true_eq]
    rfl
  rw [renderLine_fb_read s l hpx hk, pixelGrey, grey_eq]
  simp only [hsample]

end Sys2Proof.Machine

/-! PROOFS. The frame hand-off: the blocked producer (O8), its two hand-off steps (O15), the consumer's steps (O16).
Each step of the machine is the turn of the agent whose turn it is. -/

namespace Sys2Proof.Machine

/-! ## The producer's turn while a publication is open (49_frame_handoff.md R313 to R315) -/

@[simp] theorem takeTurn_consumed (s : State) : (takeTurn s).consumed = s.consumed := by
  obtain ⟨l, n, h⟩ := takeTurn_eq s
  rw [h]

@[simp] theorem takeTurn_slot (s : State) : (takeTurn s).slot = s.slot := by
  obtain ⟨l, n, h⟩ := takeTurn_eq s
  rw [h]

@[simp] theorem takeTurn_fb (s : State) : (takeTurn s).fb = s.fb := by
  obtain ⟨l, n, h⟩ := takeTurn_eq s
  rw [h]

@[simp] theorem takeTurn_clock (s : State) : (takeTurn s).clock = s.clock := by
  obtain ⟨l, n, h⟩ := takeTurn_eq s
  rw [h]

@[simp] theorem takeTurn_mode (s : State) : (takeTurn s).mode = s.mode := by
  obtain ⟨l, n, h⟩ := takeTurn_eq s
  rw [h]

section
variable {s : State}

theorem producerTurn_of_blocked (hrun : s.status = .running) (hphase : s.phase ≠ .running) :
    producerTurn s = .next (handoffStep s) := by
  unfold producerTurn
  rw [hrun]
  cases hp : s.phase with
  | running => exact absurd hp hphase
  | awaitAck | awaitSlot => rfl

theorem step_of_blocked (hrun : s.status = .running) (hphase : s.phase ≠ .running) (hagent : nextAgent s = .producer) :
    step s = .next (handoffStep (takeTurn s)) := by
  rw [step_of_producer (.inl hrun) hagent, producerTurn_of_blocked (by simpa using hrun) (by simpa using hphase)]

theorem handoffStep_unacknowledged (hphase : s.phase = .awaitAck) (hcons : s.consumed = false) :
    handoffStep s = s := by
  simp [handoffStep, hphase, hcons]

theorem handoffStep_slotFull (hphase : s.phase = .awaitSlot) (hslot : s.slot.isSome = true) : handoffStep s = s := by
  obtain ⟨frame, hframe⟩ := Option.isSome_iff_exists.mp hslot
  simp [handoffStep, hphase, hframe]

theorem handoffStep_acknowledged_empty (hphase : s.phase = .awaitAck) (hcons : s.consumed = true)
    (hslot : s.slot = none) :
    handoffStep s = ppuRun { s with consumed := false, slot := some s.fb, phase := .running } := by
  simp [handoffStep, handoffAck, publish, hphase, hcons, hslot]

theorem handoffStep_acknowledged_full (hphase : s.phase = .awaitAck) (hcons : s.consumed = true)
    (hslot : s.slot.isSome = true) : handoffStep s = { s with consumed := false, phase := .awaitSlot } := by
  obtain ⟨frame, hframe⟩ := Option.isSome_iff_exists.mp hslot
  simp [handoffStep, handoffAck, hphase, hcons, hframe]

theorem handoffStep_slotEmpty (hphase : s.phase = .awaitSlot) (hslot : s.slot = none) :
    handoffStep s = ppuRun { s with slot := some s.fb, phase := .running } := by
  simp [handoffStep, publish, hphase, hslot]

end

/-- Settles O8: neither hand-off step is enabled, so the turn is a wait. -/
theorem blockedProducerWaits : Obligations.BlockedProducerWaits := by
  intro s hrun hagent
  refine ⟨fun hphase hcons => ?_, fun hphase hslot => ?_⟩
  · rw [step_of_blocked hrun (by simp [hphase]) hagent,
      handoffStep_unacknowledged (by simpa using hphase) (by simpa using hcons)]
  · rw [step_of_blocked hrun (by simp [hphase]) hagent,
      handoffStep_slotFull (by simpa using hphase) (by simpa using hslot)]

/-- Settles O15: the hand-off step that is enabled; the PPU's loop has nothing to do below the threshold. -/
theorem handoffSteps : Obligations.HandoffSteps := by
  intro s hrun hagent
  have hstep (hphase : s.phase ≠ .running) := step_of_blocked hrun hphase hagent
  have hack (hphase : s.phase = .awaitAck) (hcons : s.consumed = true) (hslot : s.slot = none) :
      step s = .next (ppuRun { takeTurn s with consumed := false, slot := some s.fb, phase := .running }) := by
    rw [← takeTurn_fb s, hstep (by simp [hphase]),
      handoffStep_acknowledged_empty (by simpa using hphase) (by simpa using hcons) (by simpa using hslot)]
  refine ⟨hack, fun hphase hcons hslot => ?_, fun hphase hslot => ?_, fun hphase hcons hslot hclock => ?_⟩
  · rw [hstep (by simp [hphase]), handoffStep_acknowledged_full (by simpa using hphase) (by simpa using hcons)
      (by simpa using hslot)]
  · rw [← takeTurn_fb s, hstep (by simp [hphase]),
      handoffStep_slotEmpty (by simpa using hphase) (by simpa using hslot)]
  · rw [hack hphase hcons hslot, ppuRun_of_clock_lt (by simpa using hclock)]

/-! ## The consumer's turn (49_frame_handoff.md R316, R317) -/

section
variable {s : State}

theorem consumerTurn_receive (hatt : s.params.consumerAttached = true) (hheld : s.held = none)
    (hslot : s.slot.isSome = true) : consumerTurn s = { s with held := s.slot, slot := none } := by
  simp [consumerTurn, consumerEnabled, receive, hatt, hheld, hslot]

theorem consumerTurn_ack (hatt : s.params.consumerAttached = true) (hheld : s.held.isSome = true) :
    consumerTurn s = { s with held := none, consumed := true } := by
  simp [consumerTurn, consumerEnabled, acknowledge, hatt, hheld]

theorem consumerTurn_idle (h : consumerEnabled s = false) : consumerTurn s = s := by simp [consumerTurn, h]

end

/-- Settles O16: the consumer acknowledges the frame it holds, else receives the one in the slot, else does nothing. -/
theorem consumerSteps : Obligations.ConsumerSteps := by
  intro s hatt
  refine ⟨consumerTurn_receive hatt, consumerTurn_ack hatt, fun hheld hslot => consumerTurn_idle ?_,
    fun hagent hgoes => step_of_consumer hgoes hagent⟩
  simp [consumerEnabled, hheld, hslot]

end Sys2Proof.Machine

/-! PROOFS. Exits (O54, O55), a launch (O23) and the invariant at reset (O20). -/

namespace Sys2Proof.Machine

/-! ## Exits (60_exceptions.md R332, R333) -/

/-- `HALT_PC_ADVANCE` moves the recorded address of the two normal ends (40_execution_loop.md R118). -/
theorem pcAtExit_of_normalEnd {reason : ExitReason} (h : reason = .halt ∨ reason = .stop) (s : State) :
    pcAtExit reason s = if s.params.haltPcAdvance then BitVec.ofNat 16 (s.pc.toNat + 1) else s.pc := by
  rw [pcAtExit, ← pc_add_ofNat]
  simp [h]

/-- Settles O54: both are an exit and nothing before it. -/
theorem haltAndStopEndTheRun : Obligations.HaltAndStopEndTheRun := by
  intro s pc
  have hend {reason : ExitReason} (h : reason = .halt ∨ reason = .stop) :
      finish (.exit reason s) = .next { s with status := .exited reason pc } := by
    rw [finish_exit, raiseExit, pcAtExit_of_normalEnd h]
  exact ⟨hend (.inl rfl), hend (.inr rfl), rfl, rfl⟩

theorem illegal_exitsWith (op : Byte) (s : State) : ExitsWith (illegal op s) (.unimplemented op) s.pc :=
  ⟨_, rfl, by rw [raiseExit_status, pcAtExit_unimplemented]⟩

/-- The opcodes of R102 (30_encoding.md) are the bytes of `IllegalOp`. -/
theorem mem_illegalBytes_iff (op : Byte) :
    op ∈ [0xD3, 0xDB, 0xDD, 0xE3, 0xE4, 0xEB, 0xEC, 0xED, 0xF4, 0xFC, 0xFD] ↔ ∃ k : IllegalOp, k.byte = op := by
  constructor
  · intro h
    simp only [List.mem_cons, List.not_mem_nil, or_false] at h
    rcases h with rfl | rfl | rfl | rfl | rfl | rfl | rfl | rfl | rfl | rfl | rfl
    exacts [⟨.d3, rfl⟩, ⟨.db, rfl⟩, ⟨.dd, rfl⟩, ⟨.e3, rfl⟩, ⟨.e4, rfl⟩, ⟨.eb, rfl⟩, ⟨.ec, rfl⟩, ⟨.ed, rfl⟩,
      ⟨.f4, rfl⟩, ⟨.fc, rfl⟩, ⟨.fd, rfl⟩]
  · rintro ⟨k, rfl⟩
    cases k <;> decide

/-- Settles O55: each row raises the exit with its own byte. -/
theorem illegalOpcodes : Obligations.IllegalOpcodes := by
  intro s k
  refine ⟨?_, by cases k <;> rfl, mem_illegalBytes_iff⟩
  rw [exec_instrIllegal]
  exact illegal_exitsWith k.byte s

/-! ## A launch (70_reset_and_hazards.md R350, R351) -/

section
variable {x : LaunchInput} {s : State}

theorem imagesOk_iff (x : LaunchInput) : (bootImageOk x.boot && romImageOk x.rom) = true ↔
    x.boot.length = 256 ∧ 1 ≤ x.rom.length ∧ x.rom.length ≤ 32768 := by
  simp [bootImageOk, romImageOk]

theorem launch_eq_none_iff (x : LaunchInput) :
    launch x = none ↔ x.boot.length ≠ 256 ∨ x.rom.length = 0 ∨ x.rom.length > 32768 := by
  have hok := imagesOk_iff x
  have hnone : launch x = none ↔ ¬ (bootImageOk x.boot && romImageOk x.rom) = true := by simp [launch]
  rw [hnone, hok]
  omega

/-- A launch that is not refused: the sizes of its images, and the state they give. -/
theorem of_launch_eq_some (h : launch x = some s) :
    (x.boot.length = 256 ∧ 1 ≤ x.rom.length ∧ x.rom.length ≤ 32768) ∧
    s = { State.reset with
      bootLocked := x.params.bootLockedAtLaunch
      boot := Memory.runCells 0 x.boot
      rom := Memory.runCells 0 x.rom
      romLen := x.rom.length
      ram := Memory.ofCells (x.initRam.filter fun c => ramKey c.1)
      fb := Memory.ofCells (x.initFb.filter fun c => c.1 < frameSize)
      ifr := x.ifr
      ier := x.ier
      params := x.params
      turns := x.turns } := by
  unfold launch at h
  split at h
  · exact ⟨(imagesOk_iff x).mp ‹_›, (Option.some.inj h).symm⟩
  · cases h

/-- The PPU and the hand-off at reset meet their bounds in every setting of the parameters (10_state.md R40 to
R43). -/
theorem reset_ppuInv_handoffInv (p : Params) :
    PpuInv { State.reset with params := p } ∧ HandoffInv { State.reset with params := p } :=
  ⟨⟨fun _ => show 0 < thr .oamScan by decide, Nat.zero_le _, fun _ => (vblankEntry_bounds p.vblankEntry).1,
      PpuMode.noConfusion, fun h => absurd rfl h⟩,
    Phase.noConfusion, .inl rfl, ⟨fun _ => ⟨rfl, rfl⟩, fun _ => rfl⟩, fun _ => ⟨rfl, rfl⟩⟩

theorem keysOk_runCells_zero (bytes : List Byte) {n : Nat} (h : bytes.length ≤ n) :
    keysOk (fun k => k < n) (Memory.runCells 0 bytes) = true :=
  Memory.keysOk_runCells 0 bytes fun k _ hk => by simp only [decide_eq_true_eq]; omega

theorem keysOk_ofCells_filter (p : Nat → Bool) (cells : List Host.Cell) :
    keysOk p (Memory.ofCells (cells.filter fun c => p c.1)) = true :=
  Memory.keysOk_ofCells _ fun _ hc => (List.mem_filter.mp hc).2

theorem launch_memInv (h : launch x = some s) : MemInv s := by
  obtain ⟨⟨hboot, hpos, hmax⟩, rfl⟩ := of_launch_eq_some h
  have hfb : frameOk (Memory.ofCells (x.initFb.filter fun c => c.1 < frameSize)) = true := by
    rw [frameOk, Bool.and_eq_true]
    exact ⟨Memory.wf_ofCells _, keysOk_ofCells_filter (fun k => k < frameSize) x.initFb⟩
  exact ⟨Memory.wf_runCells 0 _, keysOk_runCells_zero _ hboot.le, Memory.wf_runCells 0 _,
    keysOk_runCells_zero _ le_rfl, hpos, hmax, Memory.wf_ofCells _, keysOk_ofCells_filter ramKey _, hfb, rfl, rfl⟩

theorem launch_machineInv (h : launch x = some s) : MachineInv s := by
  have hmem := launch_memInv h
  obtain ⟨-, rfl⟩ := of_launch_eq_some h
  exact ⟨hmem, reset_ppuInv_handoffInv x.params⟩

end

theorem read_runCells_zero (bytes : List Byte) (k : Nat) (h : k < bytes.length) :
    Memory.read (Memory.runCells 0 bytes) k = bytes[k] := by
  simpa using Memory.read_runCells 0 bytes k h

/-- Settles O23: the checks on the images refuse, and each store is read back as it was supplied. -/
theorem launchState : Obligations.LaunchState := by
  intro x lastCell
  refine ⟨launch_eq_none_iff x, fun s h => ?_⟩
  have hinv := launch_machineInv h
  obtain ⟨-, rfl⟩ := of_launch_eq_some h
  refine ⟨rfl, read_runCells_zero x.boot, read_runCells_zero x.rom, fun k hk => ?_, fun k hk => ?_, hinv⟩
  · exact (Memory.read_ofCells_filter x.initRam hk).trans (Memory.read_ofCells x.initRam k)
  · exact (Memory.read_ofCells_filter x.initFb (p := fun k => k < frameSize) (decide_eq_true hk)).trans
      (Memory.read_ofCells x.initFb k)

/-- Settles O20: the stores are empty, which is canonical and within every bound. -/
theorem resetMeetsInvariant : Obligations.ResetMeetsInvariant :=
  ⟨⟨rfl, rfl, rfl, rfl, by decide, by decide, rfl, rfl, rfl, rfl, rfl⟩, reset_ppuInv_handoffInv defaultParams⟩

end Sys2Proof.Machine

/-! PROOFS. Accesses: the frame of a write (O29), word accesses (O31), what a read changes (O32), and the bytes a fetch
reads (O5). -/

namespace Sys2Proof.Machine

/-- Settles O29: a write has its frame once, whatever the address. -/
theorem writeFrame : Obligations.WriteFrame := fun _ _ _ v h => busRead_afterWrite_of_not_touches v h

/-- Settles O31: both byte accesses, or the exit of the one that no region answers. -/
theorem wordAccesses : Obligations.WordAccesses := by
  intro s a w
  rw [← loByte_eq_ofNat, ← hiByte_eq_ofNat]
  refine ⟨fun h h' => memRead16_of_readable ?_, memRead16_exit_first, memRead16_exit_second,
    fun h h' => memWrite16_of_writable w ?_, memWrite16_exit_first w, memWrite16_exit_second w⟩
  · rw [readable16, h, h', Bool.and_self]
  · rw [writable16, h, h', Bool.and_self]

/-- A read that is answered: a byte, which moves nothing, or a stub's next draw (20_memory.md R64). -/
theorem of_memRead_done_cases {s t : State} {a : Word} {v : Byte} (h : memRead s a = .done v t) :
    (busRead s a = .byte v ∧ t = s) ∨
    (busRead s a = .draw ∧ v = Config.stubDraw s.drawCount ∧ t = { s with drawCount := s.drawCount + 1 }) := by
  unfold memRead at h
  cases hread : busRead s a with
  | byte x =>
    rw [hread] at h
    obtain ⟨rfl, rfl⟩ := Access.done.inj h
    exact .inl ⟨rfl, rfl⟩
  | draw =>
    rw [hread] at h
    obtain ⟨rfl, rfl⟩ := Access.done.inj h
    exact .inr ⟨rfl, rfl, rfl⟩
  | outOfBounds =>
    rw [hread] at h
    cases h

/-- Settles O32: no byte of memory depends on the draw count. -/
theorem readsChangeNothing : Obligations.ReadsChangeNothing := by
  intro s t a v h
  obtain ⟨hbyte, rfl⟩ | ⟨hdraw, rfl, rfl⟩ := of_memRead_done_cases h
  · exact ⟨fun _ => rfl, fun hdraw => by simp [hbyte] at hdraw, .inl hbyte, fun _ => rfl⟩
  · exact ⟨fun hbyte => by simp [hdraw] at hbyte, fun _ => ⟨rfl, rfl⟩, .inr hdraw, fun _ => rfl⟩

/-- Settles O5, by induction on the bytes: the first is a byte of memory, and its read moves nothing. -/
theorem fetchedBytesAreMemory : Obligations.FetchedBytesAreMemory := by
  intro s a bytes h
  induction bytes generalizing a with
  | nil => rfl
  | cons v vs ih =>
    have hfirst : busRead s (a + 0#16) = .byte v := h 0 (by simp)
    rw [BitVec.add_zero] at hfirst
    have hrest : readBytes vs.length (a + 1) s = .done vs s := by
      refine ih (a + 1) fun k hk => ?_
      have hnext : a + 1 + BitVec.ofNat 16 k = a + BitVec.ofNat 16 (k + 1) := by bv_omega
      rw [hnext]
      exact h (k + 1) (by simpa using hk)
    rw [List.length_cons, readBytes, memRead_of_byte hfirst, Access.bind_done, hrest, Access.bind_done]

end Sys2Proof.Machine

/-! PROOFS. Half-carries (O40), and DAA, CPL, SCF and CCF (O45), over natural numbers. -/

namespace Sys2Proof.Machine

/-! ## Half-carries (42_alu8.md R161) -/

section
variable {w : Nat} {m : BitVec w} {k : Nat}

/-- The test of one bit. -/
theorem and_mask_beq_mask (v : BitVec w) (hm : m.toNat = 2 ^ k) :
    (v &&& m == m) = decide (v.toNat / 2 ^ k % 2 = 1) := by
  have hbit : (v &&& m).toNat = v.toNat / 2 ^ k % 2 * 2 ^ k := by
    rw [BitVec.toNat_and, hm, Nat.and_two_pow, Nat.toNat_testBit]
  have hpos : 2 ^ k ≠ 0 := by simp
  rw [Bool.beq_eq_decide_eq, decide_eq_decide, ← BitVec.toNat_inj, hbit, hm, Nat.mul_eq_right hpos]

end

/-- Settles O40: the nibbles' sum or difference, and its bit 4; for `hcAdd16` the low 12 bits, and bit 12. -/
theorem halfCarries : Obligations.HalfCarries := by
  intro a b x y
  have hlow16 (v : Word) : (v &&& 0xFFF).toNat = v.toNat % 4096 := Nat.and_two_pow_sub_one_eq_mod v.toNat 12
  have hbit (v : Byte) : (v &&& 0x10 == 0x10) = decide (v.toNat / 16 % 2 = 1) := and_mask_beq_mask (k := 4) v rfl
  have hbit16 (v : Word) : (v &&& 0x1000 == 0x1000) = decide (v.toNat / 4096 % 2 = 1) :=
    and_mask_beq_mask (k := 12) v rfl
  have ha := toNat_and_lowNibble a
  have hb := toNat_and_lowNibble b
  have hx := hlow16 x
  have hy := hlow16 y
  simp only [hcAdd8, hcSub8, hcInc8, hcDec8, hcAdd16, hbit, hbit16, decide_eq_decide]
  refine ⟨?_, ?_, ?_, ?_, ?_⟩ <;> bv_omega

/-! ## DAA, CPL, SCF and CCF (42_alu8.md R196 to R199) -/

section
variable {f : Flags} {a : Byte}

theorem toNat_ite_add {P : Prop} [Decidable P] (v d : Byte) :
    (if P then v + d else v).toNat = if P then (v.toNat + d.toNat) % 256 else v.toNat := by
  rw [apply_ite BitVec.toNat, BitVec.toNat_add]

theorem toNat_ite_sub {P : Prop} [Decidable P] (v d : Byte) :
    (if P then v - d else v).toNat = if P then (v.toNat + 256 - d.toNat) % 256 else v.toNat := by
  have hdiff : (v - d).toNat = (v.toNat + 256 - d.toNat) % 256 := by bv_omega
  rw [apply_ite BitVec.toNat, hdiff]

/-- `DAA` after an addition. -/
theorem daaCompute_result_of_not_n (hn : f.n = false) :
    (daaCompute f a).1.toNat =
      let a1 := if f.c = true ∨ a.toNat > 0x99 then (a.toNat + 0x60) % 256 else a.toNat
      if f.h = true ∨ a1 % 16 > 9 then (a1 + 0x06) % 256 else a1 := by
  simp only [daaCompute, hn, if_true, Bool.or_eq_true, decide_eq_true_eq, toNat_and_lowNibble, toNat_ite_add]
  rfl

/-- `DAA` after a subtraction. -/
theorem daaCompute_result_of_n (hn : ¬ f.n = false) :
    (daaCompute f a).1.toNat =
      let a1 := if f.c = true then (a.toNat + 256 - 0x60) % 256 else a.toNat
      if f.h = true then (a1 + 256 - 0x06) % 256 else a1 := by
  simp only [daaCompute, if_neg hn, toNat_ite_sub]
  rfl

/-- `DAA`'s flags: Z from the result, N kept, H clear, and C set where an addition's high digit is adjusted. -/
theorem daaCompute_flags : (daaCompute f a).2 =
    ⟨decide ((daaCompute f a).1.toNat = 0), f.n, false,
      if f.n = false then decide (f.c = true ∨ a.toNat > 0x99) else f.c⟩ := by
  rw [← beq_zero_eq_decide_toNat]
  unfold daaCompute
  split
  · have hcarry : (f.c || (f.c || decide (a.toNat > 0x99))) = decide (f.c = true ∨ a.toNat > 0x99) := by simp
    exact congrArg (Flags.mk _ f.n false) hcarry
  · rfl

end

theorem not_eq_ofNat (v : Byte) : ~~~v = BitVec.ofNat 8 (255 - v.toNat) := by bv_omega

/-- Settles O45: none of the four has an access; DAA's result is that of the natural numbers. -/
theorem accumulatorAdjustments : Obligations.AccumulatorAdjustments := by
  intro s a high a1 a2
  have hresult : (daaCompute s.f s.a).1.toNat = a2 := by
    by_cases hn : s.f.n = false
    · simp only [daaCompute_result_of_not_n hn, a2, a1, if_pos hn]
      rfl
    · simp only [daaCompute_result_of_n hn, a2, a1, if_neg hn]
      rfl
  have hdaa : daaCompute s.f s.a = (BitVec.ofNat 8 a2,
      ⟨decide (a2 = 0), s.f.n, false, if s.f.n = false then decide high else s.f.c⟩) := by
    refine Prod.ext ?_ ?_
    · rw [← hresult, BitVec.ofNat_toNat, BitVec.setWidth_eq]
    · rw [daaCompute_flags, hresult]
  refine ⟨rfl, rfl, rfl, rfl, ?_, ?_, rfl, rfl⟩
  · show daa s = _
    rw [daa, hdaa]
    rfl
  · show cpl s = _
    rw [cpl, not_eq_ofNat]
    rfl

end Sys2Proof.Machine

/-! PROOFS. A frame of 154 lines (O12): a line below the entry to VBlank is three transitions, one in it is one. -/

namespace Sys2Proof.Machine

/-! ## Where the PPU stands -/

/-- The PPU's clock, mode and line, with the producer running under the parameters p. -/
structure PpuAt (p : Params) (clock : Nat) (mode : PpuMode) (line : Nat) (s : State) : Prop where
  params : s.params = p
  phase : s.phase = .running
  clock : s.clock = clock
  mode : s.mode = mode
  line : s.line = line

section
variable {p : Params} {c l : Nat} {m : PpuMode} {s : State}

theorem PpuAt.ppuRun_eq_of_lt (h : PpuAt p c m l s) (hc : c < thr m) : ppuRun s = s := by
  obtain ⟨-, -, rfl, rfl, -⟩ := h
  exact ppuRun_of_clock_lt hc

theorem PpuAt.ppuRun_eq_of_due (h : PpuAt p c m l s) (hc : thr m ≤ c) : ppuRun s = ppuRun (ppuTransition s) := by
  obtain ⟨-, hphase, rfl, rfl, -⟩ := h
  rw [ppuRun_eq, if_pos]
  simp [ppuDue, hphase, hc]

/-! ## The transitions under `Carry` (48_ppu.md R281 to R283) -/

section
variable (hcarry : p.ppuOvershoot = .carry)
include hcarry

theorem PpuAt.transition_clock (h : PpuAt p c m l s) : (ppuTransition s).clock = c - thr m := by
  obtain ⟨rfl, -, rfl, rfl, -⟩ := h
  rw [ppuTransition_clock, hcarry]
  rfl

theorem PpuAt.transition_oamScan (h : PpuAt p c .oamScan l s) :
    PpuAt p (c - 80) .pixelTransfer l (ppuTransition s) := by
  have hclock := h.transition_clock hcarry
  obtain ⟨hp, hphase, -, hm, hl⟩ := h
  rw [ppuTransition_oamScan hm] at hclock ⊢
  exact ⟨hp, hphase, hclock, rfl, hl⟩

theorem PpuAt.transition_pixelTransfer (h : PpuAt p c .pixelTransfer l s) :
    PpuAt p (c - 172) .hBlank l (ppuTransition s) := by
  have hclock := h.transition_clock hcarry
  obtain ⟨hp, hphase, -, hm, hl⟩ := h
  rw [ppuTransition_pixelTransfer hm] at hclock ⊢
  exact ⟨hp, hphase, hclock, rfl, hl⟩

/-- With no consumer attached the entry to VBlank begins no publication (49_frame_handoff.md R312). -/
theorem PpuAt.transition_hBlank (hdet : p.consumerAttached = false) (h : PpuAt p c .hBlank l s) :
    PpuAt p (c - 204) (if l + 1 = p.vblankEntry.toNat then .vBlank else .oamScan) (l + 1) (ppuTransition s) := by
  have hclock := h.transition_clock hcarry
  obtain ⟨rfl, hphase, -, hm, rfl⟩ := h
  split
  · rename_i hl
    rw [ppuTransition_hBlank_entry hm hl, beginPublish_eq] at hclock ⊢
    exact ⟨rfl, by simpa [hdet] using hphase, hclock, rfl, rfl⟩
  · rename_i hl
    rw [ppuTransition_hBlank_next hm hl] at hclock ⊢
    exact ⟨rfl, hphase, hclock, rfl, rfl⟩

theorem PpuAt.transition_vBlank_next (hl : l < 153) (h : PpuAt p c .vBlank l s) :
    PpuAt p (c - 456) .vBlank (l + 1) (ppuTransition s) := by
  have hclock := h.transition_clock hcarry
  obtain ⟨hp, hphase, -, hm, rfl⟩ := h
  rw [ppuTransition_vBlank_next hm (by omega)] at hclock ⊢
  exact ⟨hp, hphase, hclock, hm, rfl⟩

theorem PpuAt.transition_vBlank_last (h : PpuAt p c .vBlank 153 s) :
    PpuAt p (c - 456) .oamScan 0 (ppuTransition s) := by
  have hclock := h.transition_clock hcarry
  obtain ⟨hp, hphase, -, hm, hl⟩ := h
  rw [ppuTransition_vBlank_last hm (by omega)] at hclock ⊢
  exact ⟨hp, hphase, hclock, rfl, rfl⟩

end

/-! ## A line of 456 ticks (48_ppu.md R285) -/

/-- The mode in which a line begins. -/
def lineMode (p : Params) (l : Nat) : PpuMode := if l < p.vblankEntry.toNat then .oamScan else .vBlank

/-- A line begins: its first mode, with no tick counted. -/
def LineBegins (p : Params) (l : Nat) (s : State) : Prop := PpuAt p 0 (lineMode p l) l s

theorem PpuAt.ppuStep_eq (h : PpuAt p 0 m l s) (t : Nat) :
    ∃ u, PpuAt p t m l u ∧ ppuStep t s = ppuRun u := by
  obtain ⟨hp, hphase, hc, hm, hl⟩ := h
  exact ⟨{ s with clock := s.clock + t }, ⟨hp, hphase, by simp [hc], hm, hl⟩, rfl⟩

/-- A line that ends with no tick left over is at the beginning of the next. -/
theorem PpuAt.lineBegins (h : PpuAt p 0 m l s) (hm : m = lineMode p l) : LineBegins p l (ppuRun s) := by
  rw [h.ppuRun_eq_of_lt (lt_of_lt_of_le (by decide) (thr_pos m)), LineBegins, ← hm]
  exact h

section
variable (hcarry : p.ppuOvershoot = .carry)
include hcarry

/-- Below the entry a line is OamScan, PixelTransfer and HBlank: 80 + 172 + 204 ticks. -/
theorem LineBegins.next_visible (hdet : p.consumerAttached = false) (hl : l < p.vblankEntry.toNat)
    (h : LineBegins p l s) : LineBegins p (l + 1) (ppuStep 456 s) := by
  rw [LineBegins, lineMode, if_pos hl] at h
  obtain ⟨u, hoam, hstep⟩ := h.ppuStep_eq 456
  have hpixel := hoam.transition_oamScan hcarry
  have hblank := hpixel.transition_pixelTransfer hcarry
  have hnext := hblank.transition_hBlank hcarry hdet
  rw [hstep, hoam.ppuRun_eq_of_due (by decide), hpixel.ppuRun_eq_of_due (by decide),
    hblank.ppuRun_eq_of_due (by decide)]
  refine hnext.lineBegins ?_
  by_cases hentry : l + 1 = p.vblankEntry.toNat
  · rw [if_pos hentry, lineMode, if_neg (by omega)]
  · rw [if_neg hentry, lineMode, if_pos (by omega)]

/-- In VBlank a line is one transition. -/
theorem LineBegins.next_vBlank (hl : ¬ l < p.vblankEntry.toNat) (hlast : l < 153) (h : LineBegins p l s) :
    LineBegins p (l + 1) (ppuStep 456 s) := by
  rw [LineBegins, lineMode, if_neg hl] at h
  obtain ⟨u, hv, hstep⟩ := h.ppuStep_eq 456
  rw [hstep, hv.ppuRun_eq_of_due (by decide)]
  exact (hv.transition_vBlank_next hcarry hlast).lineBegins (by rw [lineMode, if_neg (by omega)])

/-- After line 153 the next frame begins. -/
theorem LineBegins.nextFrame (h : LineBegins p 153 s) : LineBegins p 0 (ppuStep 456 s) := by
  obtain ⟨hpos, hmax⟩ := vblankEntry_bounds p.vblankEntry
  rw [LineBegins, lineMode, if_neg (by omega)] at h
  obtain ⟨u, hv, hstep⟩ := h.ppuStep_eq 456
  rw [hstep, hv.ppuRun_eq_of_due (by decide)]
  exact (hv.transition_vBlank_last hcarry).lineBegins (by rw [lineMode, if_pos hpos])

theorem LineBegins.iterate (hdet : p.consumerAttached = false) (h : LineBegins p 0 s) (n : Nat) (hn : n ≤ 153) :
    LineBegins p n ((ppuStep 456)^[n] s) := by
  induction n with
  | zero => exact h
  | succ n ih =>
    have hbegins := ih (by omega)
    rw [Function.iterate_succ_apply']
    by_cases hl : n < p.vblankEntry.toNat
    · exact hbegins.next_visible hcarry hdet hl
    · exact hbegins.next_vBlank hcarry hl hn

end

end

/-- Settles O12, by induction on the lines. -/
theorem frameOf154Lines : Obligations.FrameOf154Lines := by
  intro s hcarry hdet hphase hm hc hl
  have hfirst : LineBegins s.params 0 s := by
    refine ⟨rfl, hphase, hc, ?_, hl⟩
    rw [hm, lineMode, if_pos (vblankEntry_bounds _).1]
  have hline := hfirst.iterate hcarry hdet
  refine ⟨fun n hn => ?_, ?_⟩
  · obtain ⟨-, -, hclock, hmode, hn'⟩ := hline n hn
    exact ⟨hn', hclock, hmode⟩
  · have hframe := (hline 153 le_rfl).nextFrame hcarry
    rw [← Function.iterate_succ_apply' (ppuStep 456)] at hframe
    obtain ⟨-, -, hclock, hmode, hn'⟩ := hframe
    rw [lineMode, if_pos (vblankEntry_bounds _).1] at hmode
    exact ⟨hn', hclock, hmode⟩

end Sys2Proof.Machine

/-! PROOFS. The opcode maps, row by row: a row's bytes are its encoding (O2), and sample words (O3). -/

namespace Sys2Proof

/-! ## An opcode byte and its fields (30_encoding.md R92) -/

theorem ofNat_fields (op : Byte) :
    BitVec.ofNat 8 (0x40 * (fieldX op).val + 8 * (fieldY op).val + (fieldZ op).val) = op := by
  have hlt := op.isLt
  apply BitVec.eq_of_toNat_eq
  rw [BitVec.toNat_ofNat]
  unfold fieldX fieldY fieldZ
  dsimp only
  omega

/-! ## What the decoder reads, by the row of the opcode -/

/-- P holds of every row of an opcode: of each word that begins with it, and the word's instruction. -/
def Shape.Forall (P : List Byte → Instr → Prop) (op : Byte) : Shape → Prop
  | .op i => P [op] i
  | .imm8 k => ∀ n, P [op, n] (k n)
  | .imm16 k => ∀ w, P [op, loByte w, hiByte w] (k w)
  | .extended => P [op] .prefix_CB ∧ ∀ cb, P [op, cb] (decodeExtended cb)

/-- What holds of every row holds of what the decoder reads, and of the bytes it took. -/
theorem Shape.Forall.of_decode {P : List Byte → Instr → Prop} (h : ∀ op, (decodeOpcode op).Forall P op)
    {bytes rest : List Byte} {i : Instr} (hdec : decode bytes = .instr i rest) :
    ∃ word, P word i ∧ word ++ rest = bytes := by
  cases bytes with
  | nil => cases hdec
  | cons op tail =>
    have hrow := h op
    unfold decode at hdec
    cases hshape : decodeOpcode op with
    | op k =>
      simp only [hshape, Decoded.instr.injEq] at hdec hrow
      obtain ⟨rfl, rfl⟩ := hdec
      exact ⟨[op], hrow, rfl⟩
    | imm8 k =>
      match tail with
      | [] => simp [hshape] at hdec
      | n :: tail =>
        simp only [hshape, Decoded.instr.injEq] at hdec hrow
        obtain ⟨rfl, rfl⟩ := hdec
        exact ⟨[op, n], hrow n, rfl⟩
    | imm16 k =>
      match tail with
      | [] | [_] => simp [hshape] at hdec
      | lo :: hi :: tail =>
        simp only [hshape, Decoded.instr.injEq] at hdec hrow
        obtain ⟨rfl, rfl⟩ := hdec
        exact ⟨_, hrow (wordOf hi lo), by simp⟩
    | extended =>
      rw [hshape] at hrow
      obtain ⟨hbare, hext⟩ := hrow
      match tail with
      | [] =>
        simp only [hshape, Decoded.instr.injEq] at hdec
        obtain ⟨rfl, rfl⟩ := hdec
        exact ⟨[op], hbare, rfl⟩
      | cb :: tail =>
        simp only [hshape, Decoded.instr.injEq] at hdec
        obtain ⟨rfl, rfl⟩ := hdec
        exact ⟨[op, cb], hext cb, rfl⟩

/-! ## The encoding of a row -/

/-- An extended instruction is 0xCB and the byte that selects it (30_encoding.md R101). -/
theorem encode_decodeExtended (cb : Byte) : encode (decodeExtended cb) = [0xCB, cb] := by
  have hfields := ofNat_fields cb
  unfold decodeExtended
  split <;> rename_i hx <;> rw [hx] at hfields
  · rw [Machine.encode_instrShift]
    simpa using hfields
  · rw [Machine.encode_instrBit]
    simpa using hfields
  · rw [Machine.encode_instrRes]
    simpa using hfields
  · rw [Machine.encode_instrSet]
    simpa using hfields

/-- The encodings of an opcode's rows are the words that begin with it. -/
def Shape.Encodes (op : Byte) : Shape → Prop
  | .op i => encode i = [op]
  | .imm8 k => (fun n => encode (k n)) = fun n => [op, n]
  | .imm16 k => (fun w => encode (k w)) = fun w => [op, loByte w, hiByte w]
  | .extended => op = 0xCB

theorem decodeX0_encodes (y z : Fin 8) :
    (decodeX0 (BitVec.ofNat 8 (8 * y.val + z.val))).Encodes (BitVec.ofNat 8 (8 * y.val + z.val)) := by
  fin_cases y <;> fin_cases z <;> rfl

theorem decodeX3_encodes (y z : Fin 8) :
    (decodeX3 (BitVec.ofNat 8 (0xC0 + 8 * y.val + z.val))).Encodes (BitVec.ofNat 8 (0xC0 + 8 * y.val + z.val)) := by
  fin_cases y <;> fin_cases z <;> rfl

theorem decodeOpcode_encodes (op : Byte) : (decodeOpcode op).Encodes op := by
  have hfields := ofNat_fields op
  unfold decodeOpcode
  split <;> rename_i hx <;> rw [hx] at hfields
  · have hop : BitVec.ofNat 8 (8 * (fieldY op).val + (fieldZ op).val) = op := by simpa using hfields
    have hrow := decodeX0_encodes (fieldY op) (fieldZ op)
    rwa [hop] at hrow
  · exact (Machine.encode_instrLd _ _).trans (by simpa using hfields)
  · exact (Machine.encode_instrAlu _ _).trans (by simpa using hfields)
  · have hop : BitVec.ofNat 8 (0xC0 + 8 * (fieldY op).val + (fieldZ op).val) = op := by simpa using hfields
    have hrow := decodeX3_encodes (fieldY op) (fieldZ op)
    rwa [hop] at hrow

theorem Shape.Encodes.forallRows {op : Byte} {row : Shape} (h : row.Encodes op) :
    row.Forall (fun word i => encode i = word) op := by
  cases row with
  | op i => exact h
  | imm8 k => exact congrFun h
  | imm16 k => exact congrFun h
  | extended =>
    obtain rfl : op = 0xCB := h
    exact ⟨rfl, encode_decodeExtended⟩

/-- Settles O2: the bytes a row is decoded from are its encoding. -/
theorem encodeOfDecode : Obligations.EncodeOfDecode := by
  intro bytes i rest hdec
  obtain ⟨word, hword, hbytes⟩ := Shape.Forall.of_decode (fun op => (decodeOpcode_encodes op).forallRows) hdec
  rw [hword, hbytes]

/-- Settles O3: the decoder computes on each word. -/
theorem sampleWordsDecode : Obligations.SampleWordsDecode := ⟨rfl, rfl, rfl, rfl, rfl, rfl, rfl, rfl⟩

/-- What holds of every row holds of every instruction: the decoder reads each from its encoding. -/
theorem Shape.Forall.instr {P : Instr → Prop} (h : ∀ op, (decodeOpcode op).Forall (fun _ => P) op) (i : Instr) :
    P i := by
  have hdec : decode (encode i) = .instr i [] := by
    by_cases hwf : i.wellFormed = true
    · simpa using decodeOfEncode i [] hwf
    · obtain rfl : i = .prefix_CB := by simpa [Instr.wellFormed] using hwf
      rfl
  obtain ⟨_, hi, -⟩ := Shape.Forall.of_decode h hdec
  exact hi

end Sys2Proof

/-! PROOFS. An instruction and the consumer's turn commute (O18). No instruction reads the hand-off's flag and frames,
so each line of it, its two ends and each row do the same with others in their place. -/

namespace Sys2Proof.Machine

/-! ## The hand-off's part of the state -/

/-- The flag and the frames of the hand-off (10_state.md R32), which the consumer's turn moves. -/
structure Handoff where
  consumed : Bool
  slot : Option Memory
  held : Option Memory

/-- A state with another hand-off in place of its own. -/
def State.withHandoff (s : State) (x : Handoff) : State :=
  { s with consumed := x.consumed, slot := x.slot, held := x.held }

/-- The consumer's turn puts one hand-off in place of another, by what an instruction leaves alone. -/
theorem consumerTurn_eq_withHandoff {s t : State} (h : KeepsRun s t) :
    ∃ x, consumerTurn s = s.withHandoff x ∧ consumerTurn t = t.withHandoff x := by
  obtain ⟨-, -, -, hparams, hcons, hslot, hheld, -, -⟩ := h
  unfold consumerTurn consumerEnabled
  rw [hparams, hslot, hheld]
  split
  · split
    · exact ⟨⟨true, s.slot, none⟩, rfl, by rw [acknowledge, hslot]; rfl⟩
    · exact ⟨⟨s.consumed, none, s.slot⟩, rfl, by rw [receive, hslot, ← hcons]; rfl⟩
  · exact ⟨⟨s.consumed, s.slot, s.held⟩, rfl, by rw [← hcons, ← hslot, ← hheld]; rfl⟩

/-! ## Lines that do the same whatever the hand-off -/

/-- The second line does what the first does, with the hand-off x in the state it leaves. -/
def Access.SameWith {α : Type} (x : Handoff) : Access α → Access α → Prop
  | .done v s, a => a = .done v (s.withHandoff x)
  | .exit r s, a => a = .exit r (s.withHandoff x)

section
variable {α β : Type} {x : Handoff}

theorem Access.SameWith.bind {a a' : Access α} {k k' : α → State → Access β} (h : a.SameWith x a')
    (hk : ∀ v t, (k v t).SameWith x (k' v (t.withHandoff x))) : (a.bind k).SameWith x (a'.bind k') := by
  cases a with
  | done v t =>
    obtain rfl := h
    exact hk v t
  | exit r t =>
    obtain rfl := h
    rfl

theorem memRead_sameWith (a : Word) (s : State) : (memRead s a).SameWith x (memRead (s.withHandoff x) a) := by
  have hread : busRead (s.withHandoff x) a = busRead s a := rfl
  unfold memRead
  rw [hread]
  cases busRead s a <;> rfl

theorem busWrite_withHandoff (a : Word) (v : Byte) (s : State) :
    busWrite (s.withHandoff x) a v = (busWrite s a v).map fun t => t.withHandoff x := by
  have hroute : route (s.withHandoff x) a = route s a := rfl
  have hparams : (s.withHandoff x).params = s.params := rfl
  unfold busWrite
  rw [hroute, hparams]
  cases route s a with
  | boot _ | rom _ => cases s.params.romWrite <;> rfl
  | bootLock => dsimp only; split <;> rfl
  | _ => rfl

theorem memWrite_sameWith (a : Word) (v : Byte) (s : State) :
    (memWrite s a v).SameWith x (memWrite (s.withHandoff x) a v) := by
  unfold memWrite
  rw [busWrite_withHandoff]
  cases busWrite s a v <;> rfl

theorem memRead16_sameWith (a : Word) (s : State) : (memRead16 s a).SameWith x (memRead16 (s.withHandoff x) a) :=
  (memRead_sameWith a s).bind fun _ t => (memRead_sameWith (a + 1) t).bind fun _ _ => rfl

theorem memWrite16_sameWith (a w : Word) (s : State) :
    (memWrite16 s a w).SameWith x (memWrite16 (s.withHandoff x) a w) :=
  (memWrite_sameWith a _ s).bind fun _ t => memWrite_sameWith (a + 1) _ t

theorem push16_sameWith (w : Word) (s : State) : (push16 s w).SameWith x (push16 (s.withHandoff x) w) :=
  memWrite16_sameWith _ w (s.setSp (s.sp - 2))

theorem pop16_sameWith (s : State) : (pop16 s).SameWith x (pop16 (s.withHandoff x)) :=
  (memRead16_sameWith s.sp s).bind fun _ _ => rfl

theorem setR8_withHandoff (r : Reg8) (v : Byte) (s : State) :
    (s.withHandoff x).setR8 r v = (s.setR8 r v).withHandoff x := by
  cases r <;> rfl

theorem setR16_withHandoff (r : Reg16) (w : Word) (s : State) :
    (s.withHandoff x).setR16 r w = (s.setR16 r w).withHandoff x := by
  cases r <;> rfl

theorem setStack_withHandoff (r : StackReg) (w : Word) (s : State) :
    (s.withHandoff x).setStack r w = (s.setStack r w).withHandoff x := by
  cases r <;> rfl

theorem getR16_withHandoff (r : Reg16) (s : State) : (s.withHandoff x).getR16 r = s.getR16 r := by cases r <;> rfl

theorem getStack_withHandoff (r : StackReg) (s : State) : (s.withHandoff x).getStack r = s.getStack r := by
  cases r <;> rfl

theorem aluApply_withHandoff (op : AluOp) (v : Byte) (s : State) :
    aluApply op v (s.withHandoff x) = (aluApply op v s).withHandoff x := by
  cases op <;> rfl

theorem loadLoc_sameWith (o : Operand8) (s : State) :
    (loadLoc (loc s o) s).SameWith x (loadLoc (loc (s.withHandoff x) o) (s.withHandoff x)) := by
  cases o with
  | reg r => cases r <;> rfl
  | atHL => exact memRead_sameWith s.hl s

/-- The location is formed from the state before the load (40_execution_loop.md R121). -/
theorem storeLoc_sameWith (o : Operand8) (v : Byte) (s t : State) :
    (storeLoc (loc s o) v t).SameWith x (storeLoc (loc (s.withHandoff x) o) v (t.withHandoff x)) := by
  cases o with
  | reg r => exact congrArg (Access.done ()) (setR8_withHandoff r v t)
  | atHL => exact memWrite_sameWith s.hl v t

end

/-! ## The two ends -/

section
variable {x : Handoff}

theorem ppuTransition_withHandoff (s : State) :
    ppuTransition (s.withHandoff x) = (ppuTransition s).withHandoff x := by
  cases hm : s.mode with
  | oamScan =>
    rw [ppuTransition_oamScan hm, ppuTransition_oamScan (s := s.withHandoff x) hm]
    rfl
  | pixelTransfer =>
    rw [ppuTransition_pixelTransfer hm, ppuTransition_pixelTransfer (s := s.withHandoff x) hm]
    rfl
  | hBlank =>
    by_cases hl : s.line + 1 = s.params.vblankEntry.toNat
    · rw [ppuTransition_hBlank_entry hm hl, ppuTransition_hBlank_entry (s := s.withHandoff x) hm hl,
        beginPublish_eq, beginPublish_eq]
      rfl
    · rw [ppuTransition_hBlank_next hm hl, ppuTransition_hBlank_next (s := s.withHandoff x) hm hl]
      rfl
  | vBlank =>
    by_cases hl : 153 < s.line + 1
    · rw [ppuTransition_vBlank_last hm hl, ppuTransition_vBlank_last (s := s.withHandoff x) hm hl]
      rfl
    · rw [ppuTransition_vBlank_next hm hl, ppuTransition_vBlank_next (s := s.withHandoff x) hm hl]
      rfl

theorem ppuRunFuel_withHandoff (n : Nat) (s : State) :
    ppuRunFuel n (s.withHandoff x) = (ppuRunFuel n s).withHandoff x := by
  induction n generalizing s with
  | zero => rfl
  | succ n ih =>
    have hdue : ppuDue (s.withHandoff x) = ppuDue s := rfl
    rw [ppuRunFuel_succ, ppuRunFuel_succ, hdue, ppuTransition_withHandoff, ih]
    split <;> rfl

theorem retire_withHandoff (len cyc : Nat) (s : State) :
    retire len cyc (s.withHandoff x) = (retire len cyc s).withHandoff x :=
  ppuRunFuel_withHandoff _ { s with pc := s.pc + BitVec.ofNat 16 len, clock := s.clock + 4 * cyc }

theorem finish_of_sameWith {a a' : Access Report} {t : State} (h : a.SameWith x a') (ht : finish a = .next t) :
    finish a' = .next (t.withHandoff x) := by
  cases a with
  | done r u =>
    obtain rfl := h
    obtain rfl := Host.Outcome.next.inj ht
    rw [finish_done, retire_withHandoff]
  | exit r u =>
    obtain rfl := h
    obtain rfl := Host.Outcome.next.inj ht
    rfl

/-- What an operation makes of a state does not depend on the hand-off, and leaves it alone. -/
def IgnoresHandoff (m : State → Host.Outcome State Fault Refusal) : Prop :=
  ∀ (x : Handoff) (s t : State), m s = .next t → m (s.withHandoff x) = .next (t.withHandoff x)

theorem IgnoresHandoff.finish {body : State → Access Report}
    (h : ∀ x s, (body s).SameWith x (body (s.withHandoff x))) : IgnoresHandoff fun s => finish (body s) :=
  fun x s _ ht => finish_of_sameWith (h x s) ht

theorem IgnoresHandoff.congr {m m' : State → Host.Outcome State Fault Refusal} (h : IgnoresHandoff m)
    (heq : ∀ s, m' s = m s) : IgnoresHandoff m' := by
  obtain rfl : m' = m := funext heq
  exact h

end

/-! ## The families of the rows -/

theorem ldLoc_ignoresHandoff (d o : Operand8) : IgnoresHandoff (ldLoc d o) :=
  .finish fun _ s => (loadLoc_sameWith o s).bind fun v t => (storeLoc_sameWith d v s t).bind fun _ _ => rfl

theorem ldLocImm_ignoresHandoff (d : Operand8) (n : Byte) : IgnoresHandoff (ldLocImm d n) :=
  .finish fun _ s => (storeLoc_sameWith d n s s).bind fun _ _ => rfl

theorem ldADirect_ignoresHandoff (len cyc : Nat) {addr : State → Word}
    (h : ∀ x s, addr (State.withHandoff s x) = addr s) : IgnoresHandoff fun s => ldADirect len cyc (addr s) s :=
  .finish fun x s => by
    rw [h]
    exact (memRead_sameWith _ s).bind fun _ _ => rfl

theorem ldDirectA_ignoresHandoff (len cyc : Nat) {addr : State → Word}
    (h : ∀ x s, addr (State.withHandoff s x) = addr s) : IgnoresHandoff fun s => ldDirectA len cyc (addr s) s :=
  .finish fun x s => by
    rw [h]
    exact (memWrite_sameWith _ _ s).bind fun _ _ => rfl

theorem ldAHLStep_ignoresHandoff (w : Word) : IgnoresHandoff (ldAHLStep w) :=
  .finish fun _ s => (memRead_sameWith s.hl s).bind fun _ _ => rfl

theorem ldHLAStep_ignoresHandoff (w : Word) : IgnoresHandoff (ldHLAStep w) :=
  .finish fun _ s => (memWrite_sameWith s.hl s.a s).bind fun _ _ => rfl

theorem ldWord_ignoresHandoff (r : Reg16) (w : Word) : IgnoresHandoff (ldWord r w) :=
  .finish fun _ s => congrArg (Access.done _) (setR16_withHandoff r w s)

theorem ldWordSp_ignoresHandoff (a : Word) : IgnoresHandoff (ldWordSp a) :=
  .finish fun _ s => (memWrite16_sameWith a s.sp s).bind fun _ _ => rfl

theorem ldSpHL_ignoresHandoff : IgnoresHandoff ldSpHL := .finish fun _ _ => rfl

theorem pushReg_ignoresHandoff (r : StackReg) : IgnoresHandoff (pushReg r) :=
  .finish fun _ s => by
    rw [getStack_withHandoff]
    exact (push16_sameWith _ s).bind fun _ _ => rfl

theorem popReg_ignoresHandoff (r : StackReg) : IgnoresHandoff (popReg r) :=
  .finish fun _ s => (pop16_sameWith s).bind fun v t => congrArg (Access.done _) (setStack_withHandoff r v t)

theorem aluLoc_ignoresHandoff (op : AluOp) (o : Operand8) : IgnoresHandoff (aluLoc op o) :=
  .finish fun _ s => (loadLoc_sameWith o s).bind fun v t => congrArg (Access.done _) (aluApply_withHandoff op v t)

theorem aluImm_ignoresHandoff (op : AluOp) (n : Byte) : IgnoresHandoff (aluImm op n) :=
  .finish fun _ s => congrArg (Access.done _) (aluApply_withHandoff op n s)

theorem incLoc_ignoresHandoff (o : Operand8) : IgnoresHandoff (incLoc o) :=
  .finish fun _ s => (loadLoc_sameWith o s).bind fun _ t => (storeLoc_sameWith o _ s t).bind fun _ _ => rfl

theorem decLoc_ignoresHandoff (o : Operand8) : IgnoresHandoff (decLoc o) :=
  .finish fun _ s => (loadLoc_sameWith o s).bind fun _ t => (storeLoc_sameWith o _ s t).bind fun _ _ => rfl

theorem daa_ignoresHandoff : IgnoresHandoff daa := .finish (body := fun _ => .done ⟨1, 1⟩ _) fun _ _ => rfl

theorem cpl_ignoresHandoff : IgnoresHandoff cpl := .finish fun _ _ => rfl

theorem scf_ignoresHandoff : IgnoresHandoff scf := .finish fun _ _ => rfl

theorem ccf_ignoresHandoff : IgnoresHandoff ccf := .finish fun _ _ => rfl

theorem inc16_ignoresHandoff (r : Reg16) : IgnoresHandoff (inc16 r) :=
  .finish fun _ s => by
    rw [getR16_withHandoff]
    exact congrArg (Access.done _) (setR16_withHandoff r _ s)

theorem dec16_ignoresHandoff (r : Reg16) : IgnoresHandoff (dec16 r) :=
  .finish fun _ s => by
    rw [getR16_withHandoff]
    exact congrArg (Access.done _) (setR16_withHandoff r _ s)

theorem addHL_ignoresHandoff (r : Reg16) : IgnoresHandoff (addHL r) :=
  .finish (body := fun _ => .done ⟨1, 2⟩ _) fun _ s => by
    rw [getR16_withHandoff]
    rfl

theorem addSp_ignoresHandoff (e : Byte) : IgnoresHandoff (addSp e) :=
  .finish (body := fun _ => .done ⟨2, 4⟩ _) fun _ _ => rfl

theorem ldHLSp_ignoresHandoff (e : Byte) : IgnoresHandoff (ldHLSp e) :=
  .finish (body := fun _ => .done ⟨2, 3⟩ _) fun _ _ => rfl

theorem accRotate_ignoresHandoff (op : AccRot) : IgnoresHandoff (accRotate op) :=
  .finish (body := fun _ => .done ⟨1, 1⟩ _) fun _ _ => rfl

theorem shiftLoc_ignoresHandoff (op : ShiftOp) (o : Operand8) : IgnoresHandoff (shiftLoc op o) :=
  .finish fun _ s => (loadLoc_sameWith o s).bind fun _ t => (storeLoc_sameWith o _ s t).bind fun _ _ => rfl

theorem bitLoc_ignoresHandoff (k : Fin 8) (o : Operand8) : IgnoresHandoff (bitLoc k o) :=
  .finish fun _ s => (loadLoc_sameWith o s).bind fun _ _ => rfl

theorem resLoc_ignoresHandoff (k : Fin 8) (o : Operand8) : IgnoresHandoff (resLoc k o) :=
  .finish fun _ s => (loadLoc_sameWith o s).bind fun _ t => (storeLoc_sameWith o _ s t).bind fun _ _ => rfl

theorem setLoc_ignoresHandoff (k : Fin 8) (o : Operand8) : IgnoresHandoff (setLoc k o) :=
  .finish fun _ s => (loadLoc_sameWith o s).bind fun _ t => (storeLoc_sameWith o _ s t).bind fun _ _ => rfl

theorem jump_ignoresHandoff (a : Word) : IgnoresHandoff (jump a) := .finish fun _ _ => rfl

theorem jumpHL_ignoresHandoff : IgnoresHandoff jumpHL := .finish fun _ _ => rfl

theorem jumpRel_ignoresHandoff (e : Byte) : IgnoresHandoff (jumpRel e) := .finish fun _ _ => rfl

theorem callTo_sameWith (len cyc : Nat) (a : Word) (x : Handoff) (s : State) :
    (callTo len cyc a s).SameWith x (callTo len cyc a (s.withHandoff x)) :=
  (push16_sameWith _ s).bind fun _ _ => rfl

theorem retWith_sameWith (cyc : Nat) (x : Handoff) (s : State) :
    (retWith cyc s).SameWith x (retWith cyc (s.withHandoff x)) :=
  (pop16_sameWith s).bind fun _ _ => rfl

/-- A form with a condition: its two bodies do not depend on the hand-off, and neither does the condition. -/
theorem IgnoresHandoff.finish_ite (i : Cond) {taken untaken : State → Access Report}
    (h : ∀ x s, (taken s).SameWith x (taken (s.withHandoff x)))
    (h' : ∀ x s, (untaken s).SameWith x (untaken (s.withHandoff x))) :
    IgnoresHandoff fun s => Machine.finish (if condMet i s.f then taken s else untaken s) :=
  .finish fun x s => by
    have hf : (s.withHandoff x).f = s.f := rfl
    rw [hf]
    split
    · exact h x s
    · exact h' x s

theorem jumpCc_ignoresHandoff (i : Cond) (a : Word) : IgnoresHandoff (jumpCc i a) :=
  .finish_ite i (fun _ _ => rfl) fun _ _ => rfl

theorem jumpRelCc_ignoresHandoff (i : Cond) (e : Byte) : IgnoresHandoff (jumpRelCc i e) :=
  .finish_ite i (fun _ _ => rfl) fun _ _ => rfl

theorem call_ignoresHandoff (a : Word) : IgnoresHandoff (call a) := .finish (callTo_sameWith 3 6 a)

theorem callCc_ignoresHandoff (i : Cond) (a : Word) : IgnoresHandoff (callCc i a) :=
  .finish_ite i (callTo_sameWith 3 6 a) fun _ _ => rfl

theorem restart_ignoresHandoff (y : Fin 8) : IgnoresHandoff (restart y) := .finish (callTo_sameWith 1 4 _)

theorem ret_ignoresHandoff : IgnoresHandoff ret := .finish (retWith_sameWith 4)

theorem retCc_ignoresHandoff (i : Cond) : IgnoresHandoff (retCc i) :=
  .finish_ite i (retWith_sameWith 5) fun _ _ => rfl

theorem reti_ignoresHandoff : IgnoresHandoff reti :=
  .finish fun x s => (retWith_sameWith 4 x s).bind fun _ _ => rfl

theorem nop_ignoresHandoff : IgnoresHandoff nop := .finish fun _ _ => rfl

theorem halt_ignoresHandoff : IgnoresHandoff halt := .finish fun _ _ => rfl

theorem stop_ignoresHandoff : IgnoresHandoff stop := .finish fun _ _ => rfl

theorem writeIme_ignoresHandoff (v : Bool) : IgnoresHandoff (writeIme v) := .finish fun _ _ => rfl

theorem illegal_ignoresHandoff (op : Byte) : IgnoresHandoff (illegal op) := .finish fun _ _ => rfl

theorem runExtended_ignoresHandoff (cb : Byte) : IgnoresHandoff (runExtended cb) := by
  unfold runExtended
  split
  · exact shiftLoc_ignoresHandoff _ _
  · exact bitLoc_ignoresHandoff _ _
  · exact resLoc_ignoresHandoff _ _
  · exact setLoc_ignoresHandoff _ _

theorem runPrefixed_ignoresHandoff : IgnoresHandoff runPrefixed := by
  intro x s t ht
  have hread := memRead_sameWith (x := x) (s.pc + 1) s
  unfold runPrefixed at ht
  have hpc : (s.withHandoff x).pc = s.pc := rfl
  rw [runPrefixed, hpc]
  split at ht <;> rename_i hm <;> rw [hm] at hread
  · rw [hread]
    exact runExtended_ignoresHandoff _ x _ t ht
  · rw [hread]
    obtain rfl := Host.Outcome.next.inj ht
    rfl

/-! ## The rows of the opcode maps (30_encoding.md R100, R101) -/

/-- Every row of an opcode runs without regard to the hand-off. -/
def RowsIgnoreHandoff (op : Byte) (row : Shape) : Prop := row.Forall (fun _ i => IgnoresHandoff (exec i)) op

theorem instrLd_ignoresHandoff (d o : Operand8) : IgnoresHandoff (exec (instrLd d o)) := by
  by_cases h : d = .atHL ∧ o = .atHL
  · obtain ⟨rfl, rfl⟩ := h
    exact halt_ignoresHandoff
  · exact (ldLoc_ignoresHandoff d o).congr (exec_instrLd h)

theorem decodeExtended_ignoresHandoff (cb : Byte) : IgnoresHandoff (exec (decodeExtended cb)) :=
  (runExtended_ignoresHandoff cb).congr fun s => (runExtended_eq cb s).symm

theorem decodeX0_ignoresHandoff (op : Byte) : RowsIgnoreHandoff op (decodeX0 op) := by
  unfold decodeX0
  split
  · split
    · exact nop_ignoresHandoff
    · exact ldWordSp_ignoresHandoff
    · exact stop_ignoresHandoff
    · exact jumpRel_ignoresHandoff
    · exact fun e => (jumpRelCc_ignoresHandoff _ e).congr (exec_instrJrCc _ e)
  · split
    · exact (addHL_ignoresHandoff _).congr (exec_instrAddHL _)
    · exact fun w => (ldWord_ignoresHandoff _ w).congr (exec_instrLdWord _ w)
  · split
    · exact ldDirectA_ignoresHandoff 1 2 (addr := State.bc) fun _ _ => rfl
    · exact ldADirect_ignoresHandoff 1 2 (addr := State.bc) fun _ _ => rfl
    · exact ldDirectA_ignoresHandoff 1 2 (addr := State.de) fun _ _ => rfl
    · exact ldADirect_ignoresHandoff 1 2 (addr := State.de) fun _ _ => rfl
    · exact ldHLAStep_ignoresHandoff 1
    · exact ldAHLStep_ignoresHandoff 1
    · exact ldHLAStep_ignoresHandoff (-1)
    · exact ldAHLStep_ignoresHandoff (-1)
  · split
    · exact (dec16_ignoresHandoff _).congr (exec_instrDec16 _)
    · exact (inc16_ignoresHandoff _).congr (exec_instrInc16 _)
  · exact (incLoc_ignoresHandoff _).congr (exec_instrInc8 _)
  · exact (decLoc_ignoresHandoff _).congr (exec_instrDec8 _)
  · exact fun n => (ldLocImm_ignoresHandoff _ n).congr (exec_instrLdImm _ n)
  · split
    · exact accRotate_ignoresHandoff .rlca
    · exact accRotate_ignoresHandoff .rrca
    · exact accRotate_ignoresHandoff .rla
    · exact accRotate_ignoresHandoff .rra
    · exact daa_ignoresHandoff
    · exact cpl_ignoresHandoff
    · exact scf_ignoresHandoff
    · exact ccf_ignoresHandoff

theorem decodeX3_ignoresHandoff (op : Byte) : RowsIgnoreHandoff op (decodeX3 op) := by
  unfold decodeX3
  split
  · split
    · exact fun n => ldDirectA_ignoresHandoff 2 3 (addr := fun _ => highPage n) fun _ _ => rfl
    · exact addSp_ignoresHandoff
    · exact fun n => ldADirect_ignoresHandoff 2 3 (addr := fun _ => highPage n) fun _ _ => rfl
    · exact ldHLSp_ignoresHandoff
    · exact (retCc_ignoresHandoff _).congr (exec_instrRetCc _)
  · split
    · split
      · exact ret_ignoresHandoff
      · exact reti_ignoresHandoff
      · exact jumpHL_ignoresHandoff
      · exact ldSpHL_ignoresHandoff
    · exact (popReg_ignoresHandoff _).congr (exec_instrPop _)
  · split
    · exact ldDirectA_ignoresHandoff 1 2 (addr := fun s => highPage s.c) fun _ _ => rfl
    · exact fun a => ldDirectA_ignoresHandoff 3 4 (addr := fun _ => a) fun _ _ => rfl
    · exact ldADirect_ignoresHandoff 1 2 (addr := fun s => highPage s.c) fun _ _ => rfl
    · exact fun a => ldADirect_ignoresHandoff 3 4 (addr := fun _ => a) fun _ _ => rfl
    · exact fun a => (jumpCc_ignoresHandoff _ a).congr (exec_instrJpCc _ a)
  · split
    · exact jump_ignoresHandoff
    · exact ⟨runPrefixed_ignoresHandoff, decodeExtended_ignoresHandoff⟩
    · exact illegal_ignoresHandoff 0xD3
    · exact illegal_ignoresHandoff 0xDB
    · exact illegal_ignoresHandoff 0xE3
    · exact illegal_ignoresHandoff 0xEB
    · exact writeIme_ignoresHandoff false
    · exact writeIme_ignoresHandoff true
  · split
    · exact illegal_ignoresHandoff 0xE4
    · exact illegal_ignoresHandoff 0xEC
    · exact illegal_ignoresHandoff 0xF4
    · exact illegal_ignoresHandoff 0xFC
    · exact fun a => (callCc_ignoresHandoff _ a).congr (exec_instrCallCc _ a)
  · split
    · split
      · exact call_ignoresHandoff
      · exact illegal_ignoresHandoff 0xDD
      · exact illegal_ignoresHandoff 0xED
      · exact illegal_ignoresHandoff 0xFD
    · exact (pushReg_ignoresHandoff _).congr (exec_instrPush _)
  · exact fun n => (aluImm_ignoresHandoff _ n).congr (exec_instrAluImm _ n)
  · exact (restart_ignoresHandoff _).congr (exec_instrRst _)

theorem decodeOpcode_ignoresHandoff (op : Byte) : RowsIgnoreHandoff op (decodeOpcode op) := by
  unfold decodeOpcode
  split
  · exact decodeX0_ignoresHandoff op
  · exact instrLd_ignoresHandoff _ _
  · exact (aluLoc_ignoresHandoff _ _).congr (exec_instrAlu _ _)
  · exact decodeX3_ignoresHandoff op

theorem exec_ignoresHandoff (i : Instr) : IgnoresHandoff (exec i) :=
  Shape.Forall.instr (P := fun i => IgnoresHandoff (exec i)) decodeOpcode_ignoresHandoff i

/-- Settles O18: the consumer's turn puts another hand-off in place, the same before the instruction as after it. -/
theorem consumerCommutesWithInstructions : Obligations.ConsumerCommutesWithInstructions := by
  intro i s t h
  obtain ⟨hkeeps, -⟩ := noInstructionTouchesRun i s t h
  obtain ⟨x, hs, ht⟩ := consumerTurn_eq_withHandoff hkeeps
  rw [hs, ht]
  exact exec_ignoresHandoff i x s t h

end Sys2Proof.Machine
